-- ==== Sys2Proof/Word.lean ====
section
/-!
DEFINITION. Word.lean: the three widths of the core and the slices of a word (spec/00_scope.md R6, R8, R9).
A *byte* is 8 bits, a *word* 16 bits, a *long* 24 bits: a long is a bank (bits 23:16) and an offset (bits 15:0).
-/

namespace Sys2Proof

/-- 8 bits (R8). -/
abbrev Byte := BitVec 8

/-- 16 bits (R8). -/
abbrev Word := BitVec 16

/-- 24 bits, `bank : offset` (R6, R8, R9). -/
abbrev Long := BitVec 24

/-- `v[7:0]` of a word (R8). -/
def loByte (v : Word) : Byte := v.extractLsb' 0 8

/-- `v[15:8]` of a word (R8). -/
def hiByte (v : Word) : Byte := v.extractLsb' 8 8

/-- `hi : lo`, the word of two bytes (R8). -/
def mkWord (hi lo : Byte) : Word := hi ++ lo

/-- `R.bank = R[23:16]` of a 24-bit container (R9). -/
def bankOf (v : Long) : Byte := v.extractLsb' 16 8

/-- `R.off = R[15:0]` of a 24-bit container (R9). -/
def offOf (v : Long) : Word := v.extractLsb' 0 16

/-- `bank : off`, the 24-bit value of a bank and an offset (R8, R9). -/
def mkLong (bank : Byte) (off : Word) : Long := bank ++ off

end Sys2Proof
end

