-- ==== Sys2Proof/Syntax.lean ====
section
/-!
DEFINITION. Syntax.lean: the instructions of the 256-entry opcode table (spec/30_encoding.md R100 to R107), one
constructor per row of spec/opcode_table.json: first the rows with operand bytes, then the rows without, each in the
table's order (the compiler of Lean takes at most 244 constructors that carry data before it runs out of tags). The operand of a constructor is what its
addressing mode puts after the opcode byte (R101, R102, R107), assembled least significant byte first.
The twenty rows that have a handler (R106) name their rule; the others are the placeholders of R108, whose operand
bytes are syntax only: no rule of the spec reads them (log 7).
-/

namespace Sys2Proof

/-- The operand of the formats IMMM and IMMX: 8 bits when the width flag is 1, 16 bits when it is 0 (R101, R102).
It carries the width at which the flags let it be decoded (R103). -/
inductive Imm where
  /-- `imm8 = byte1` (R102). -/
  | b8 (v : Byte)
  /-- `imm16 = byte2 : byte1` (R102). -/
  | w16 (v : Word)
  deriving DecidableEq, Repr

/-- The instructions: one constructor per opcode byte (R100, R105). -/
inductive Instr where
  /-- `0x00` BRK, mode `s`, placeholder (R108). -/
  | brk (b : Byte)
  /-- `0x01` ORA, mode `(d,x)`, placeholder (R108). -/
  | oraDirXInd (b : Byte)
  /-- `0x02` COP, mode `s`, placeholder (R108). -/
  | cop (b : Byte)
  /-- `0x03` ORA, mode `d,s`, placeholder (R108). -/
  | oraStk (b : Byte)
  /-- `0x04` TSB, mode `d`, placeholder (R108). -/
  | tsbDir (b : Byte)
  /-- `0x05` ORA, mode `d`, placeholder (R108). -/
  | oraDir (b : Byte)
  /-- `0x06` ASL, mode `d`, placeholder (R108). -/
  | aslDir (b : Byte)
  /-- `0x07` ORA, mode `[d]`, placeholder (R108). -/
  | oraDirIndLong (b : Byte)
  /-- `0x09` ORA, mode `#m`, placeholder (R108). -/
  | oraImm (imm : Imm)
  /-- `0x0C` TSB, mode `a`, placeholder (R108). -/
  | tsbAbs (w : Word)
  /-- `0x0D` ORA, mode `a`, placeholder (R108). -/
  | oraAbs (w : Word)
  /-- `0x0E` ASL, mode `a`, placeholder (R108). -/
  | aslAbs (w : Word)
  /-- `0x0F` ORA, mode `al`, placeholder (R108). -/
  | oraAbsLong (l : Long)
  /-- `0x10` BPL, mode `r`, placeholder (R108). -/
  | bpl (b : Byte)
  /-- `0x11` ORA, mode `(d),y`, placeholder (R108). -/
  | oraDirIndY (b : Byte)
  /-- `0x12` ORA, mode `(d)`, placeholder (R108). -/
  | oraDirInd (b : Byte)
  /-- `0x13` ORA, mode `(d,s),y`, placeholder (R108). -/
  | oraStkIndY (b : Byte)
  /-- `0x14` TRB, mode `d`, placeholder (R108). -/
  | trbDir (b : Byte)
  /-- `0x15` ORA, mode `d,x`, placeholder (R108). -/
  | oraDirX (b : Byte)
  /-- `0x16` ASL, mode `d,x`, placeholder (R108). -/
  | aslDirX (b : Byte)
  /-- `0x17` ORA, mode `[d],y`, placeholder (R108). -/
  | oraDirIndLongY (b : Byte)
  /-- `0x19` ORA, mode `a,y`, placeholder (R108). -/
  | oraAbsY (w : Word)
  /-- `0x1C` TRB, mode `a`, placeholder (R108). -/
  | trbAbs (w : Word)
  /-- `0x1D` ORA, mode `a,x`, placeholder (R108). -/
  | oraAbsX (w : Word)
  /-- `0x1E` ASL, mode `a,x`, placeholder (R108). -/
  | aslAbsX (w : Word)
  /-- `0x1F` ORA, mode `al,x`, placeholder (R108). -/
  | oraAbsLongX (l : Long)
  /-- `0x20` JSR, mode `a`, placeholder (R108). -/
  | jsrAbs (w : Word)
  /-- `0x21` AND, mode `(d,x)`, placeholder (R108). -/
  | andDirXInd (b : Byte)
  /-- `0x22` JSL, mode `al`, placeholder (R108). -/
  | jslAbsLong (l : Long)
  /-- `0x23` AND, mode `d,s`, placeholder (R108). -/
  | andStk (b : Byte)
  /-- `0x24` BIT, mode `d`, placeholder (R108). -/
  | bitDir (b : Byte)
  /-- `0x25` AND, mode `d`, placeholder (R108). -/
  | andDir (b : Byte)
  /-- `0x26` ROL, mode `d`, placeholder (R108). -/
  | rolDir (b : Byte)
  /-- `0x27` AND, mode `[d]`, placeholder (R108). -/
  | andDirIndLong (b : Byte)
  /-- `0x29` AND, mode `#m`, placeholder (R108). -/
  | andImm (imm : Imm)
  /-- `0x2C` BIT, mode `a`, placeholder (R108). -/
  | bitAbs (w : Word)
  /-- `0x2D` AND, mode `a`, placeholder (R108). -/
  | andAbs (w : Word)
  /-- `0x2E` ROL, mode `a`, placeholder (R108). -/
  | rolAbs (w : Word)
  /-- `0x2F` AND, mode `al`, placeholder (R108). -/
  | andAbsLong (l : Long)
  /-- `0x30` BMI, mode `r`, placeholder (R108). -/
  | bmi (b : Byte)
  /-- `0x31` AND, mode `(d),y`, placeholder (R108). -/
  | andDirIndY (b : Byte)
  /-- `0x32` AND, mode `(d)`, placeholder (R108). -/
  | andDirInd (b : Byte)
  /-- `0x33` AND, mode `(d,s),y`, placeholder (R108). -/
  | andStkIndY (b : Byte)
  /-- `0x34` BIT, mode `d,x`, placeholder (R108). -/
  | bitDirX (b : Byte)
  /-- `0x35` AND, mode `d,x`, placeholder (R108). -/
  | andDirX (b : Byte)
  /-- `0x36` ROL, mode `d,x`, placeholder (R108). -/
  | rolDirX (b : Byte)
  /-- `0x37` AND, mode `[d],y`, placeholder (R108). -/
  | andDirIndLongY (b : Byte)
  /-- `0x39` AND, mode `a,y`, placeholder (R108). -/
  | andAbsY (w : Word)
  /-- `0x3C` BIT, mode `a,x`, placeholder (R108). -/
  | bitAbsX (w : Word)
  /-- `0x3D` AND, mode `a,x`, placeholder (R108). -/
  | andAbsX (w : Word)
  /-- `0x3E` ROL, mode `a,x`, placeholder (R108). -/
  | rolAbsX (w : Word)
  /-- `0x3F` AND, mode `al,x`, placeholder (R108). -/
  | andAbsLongX (l : Long)
  /-- `0x41` EOR, mode `(d,x)`, placeholder (R108). -/
  | eorDirXInd (b : Byte)
  /-- `0x42` WDM, mode `i`, placeholder (R108). -/
  | wdm (b : Byte)
  /-- `0x43` EOR, mode `d,s`, placeholder (R108). -/
  | eorStk (b : Byte)
  /-- `0x44` MVP, mode `xyc`, placeholder (R108). -/
  | mvp (w : Word)
  /-- `0x45` EOR, mode `d`, placeholder (R108). -/
  | eorDir (b : Byte)
  /-- `0x46` LSR, mode `d`, placeholder (R108). -/
  | lsrDir (b : Byte)
  /-- `0x47` EOR, mode `[d]`, placeholder (R108). -/
  | eorDirIndLong (b : Byte)
  /-- `0x49` EOR, mode `#m`, placeholder (R108). -/
  | eorImm (imm : Imm)
  /-- `0x4C` JMP, mode `a`, R220. -/
  | jmpAbs (addr : Word)
  /-- `0x4D` EOR, mode `a`, placeholder (R108). -/
  | eorAbs (w : Word)
  /-- `0x4E` LSR, mode `a`, placeholder (R108). -/
  | lsrAbs (w : Word)
  /-- `0x4F` EOR, mode `al`, placeholder (R108). -/
  | eorAbsLong (l : Long)
  /-- `0x50` BVC, mode `r`, placeholder (R108). -/
  | bvc (b : Byte)
  /-- `0x51` EOR, mode `(d),y`, placeholder (R108). -/
  | eorDirIndY (b : Byte)
  /-- `0x52` EOR, mode `(d)`, placeholder (R108). -/
  | eorDirInd (b : Byte)
  /-- `0x53` EOR, mode `(d,s),y`, placeholder (R108). -/
  | eorStkIndY (b : Byte)
  /-- `0x54` MVN, mode `xyc`, placeholder (R108). -/
  | mvn (w : Word)
  /-- `0x55` EOR, mode `d,x`, placeholder (R108). -/
  | eorDirX (b : Byte)
  /-- `0x56` LSR, mode `d,x`, placeholder (R108). -/
  | lsrDirX (b : Byte)
  /-- `0x57` EOR, mode `[d],y`, placeholder (R108). -/
  | eorDirIndLongY (b : Byte)
  /-- `0x59` EOR, mode `a,y`, placeholder (R108). -/
  | eorAbsY (w : Word)
  /-- `0x5C` JMP, mode `al`, R221. -/
  | jmpAbsLong (addr : Long)
  /-- `0x5D` EOR, mode `a,x`, placeholder (R108). -/
  | eorAbsX (w : Word)
  /-- `0x5E` LSR, mode `a,x`, placeholder (R108). -/
  | lsrAbsX (w : Word)
  /-- `0x5F` EOR, mode `al,x`, placeholder (R108). -/
  | eorAbsLongX (l : Long)
  /-- `0x61` ADC, mode `(d,x)`, placeholder (R108). -/
  | adcDirXInd (b : Byte)
  /-- `0x62` PER, mode `s`, placeholder (R108). -/
  | per (w : Word)
  /-- `0x63` ADC, mode `d,s`, placeholder (R108). -/
  | adcStk (b : Byte)
  /-- `0x64` STZ, mode `d`, placeholder (R108). -/
  | stzDir (b : Byte)
  /-- `0x65` ADC, mode `d`, placeholder (R108). -/
  | adcDir (b : Byte)
  /-- `0x66` ROR, mode `d`, placeholder (R108). -/
  | rorDir (b : Byte)
  /-- `0x67` ADC, mode `[d]`, placeholder (R108). -/
  | adcDirIndLong (b : Byte)
  /-- `0x69` ADC, mode `#m`, R190. -/
  | adcImm (imm : Imm)
  /-- `0x6C` JMP, mode `(a)`, placeholder (R108). -/
  | jmpAbsInd (w : Word)
  /-- `0x6D` ADC, mode `a`, placeholder (R108). -/
  | adcAbs (w : Word)
  /-- `0x6E` ROR, mode `a`, placeholder (R108). -/
  | rorAbs (w : Word)
  /-- `0x6F` ADC, mode `al`, placeholder (R108). -/
  | adcAbsLong (l : Long)
  /-- `0x70` BVS, mode `r`, placeholder (R108). -/
  | bvs (b : Byte)
  /-- `0x71` ADC, mode `(d),y`, placeholder (R108). -/
  | adcDirIndY (b : Byte)
  /-- `0x72` ADC, mode `(d)`, placeholder (R108). -/
  | adcDirInd (b : Byte)
  /-- `0x73` ADC, mode `(d,s),y`, placeholder (R108). -/
  | adcStkIndY (b : Byte)
  /-- `0x74` STZ, mode `d,x`, placeholder (R108). -/
  | stzDirX (b : Byte)
  /-- `0x75` ADC, mode `d,x`, placeholder (R108). -/
  | adcDirX (b : Byte)
  /-- `0x76` ROR, mode `d,x`, placeholder (R108). -/
  | rorDirX (b : Byte)
  /-- `0x77` ADC, mode `[d],y`, placeholder (R108). -/
  | adcDirIndLongY (b : Byte)
  /-- `0x79` ADC, mode `a,y`, placeholder (R108). -/
  | adcAbsY (w : Word)
  /-- `0x7C` JMP, mode `(a,x)`, placeholder (R108). -/
  | jmpAbsXInd (w : Word)
  /-- `0x7D` ADC, mode `a,x`, placeholder (R108). -/
  | adcAbsX (w : Word)
  /-- `0x7E` ROR, mode `a,x`, placeholder (R108). -/
  | rorAbsX (w : Word)
  /-- `0x7F` ADC, mode `al,x`, placeholder (R108). -/
  | adcAbsLongX (l : Long)
  /-- `0x80` BRA, mode `r`, placeholder (R108). -/
  | bra (b : Byte)
  /-- `0x81` STA, mode `(d,x)`, placeholder (R108). -/
  | staDirXInd (b : Byte)
  /-- `0x82` BRL, mode `rl`, placeholder (R108). -/
  | brl (w : Word)
  /-- `0x83` STA, mode `d,s`, placeholder (R108). -/
  | staStk (b : Byte)
  /-- `0x84` STY, mode `d`, placeholder (R108). -/
  | styDir (b : Byte)
  /-- `0x85` STA, mode `d`, placeholder (R108). -/
  | staDir (b : Byte)
  /-- `0x86` STX, mode `d`, placeholder (R108). -/
  | stxDir (b : Byte)
  /-- `0x87` STA, mode `[d]`, placeholder (R108). -/
  | staDirIndLong (b : Byte)
  /-- `0x89` BIT, mode `#m`, placeholder (R108). -/
  | bitImm (imm : Imm)
  /-- `0x8C` STY, mode `a`, placeholder (R108). -/
  | styAbs (w : Word)
  /-- `0x8D` STA, mode `a`, R204. -/
  | staAbs (addr : Word)
  /-- `0x8E` STX, mode `a`, placeholder (R108). -/
  | stxAbs (w : Word)
  /-- `0x8F` STA, mode `al`, placeholder (R108). -/
  | staAbsLong (l : Long)
  /-- `0x90` BCC, mode `r`, placeholder (R108). -/
  | bcc (b : Byte)
  /-- `0x91` STA, mode `(d),y`, placeholder (R108). -/
  | staDirIndY (b : Byte)
  /-- `0x92` STA, mode `(d)`, placeholder (R108). -/
  | staDirInd (b : Byte)
  /-- `0x93` STA, mode `(d,s),y`, placeholder (R108). -/
  | staStkIndY (b : Byte)
  /-- `0x94` STY, mode `d,x`, placeholder (R108). -/
  | styDirX (b : Byte)
  /-- `0x95` STA, mode `d,x`, placeholder (R108). -/
  | staDirX (b : Byte)
  /-- `0x96` STX, mode `d,y`, placeholder (R108). -/
  | stxDirY (b : Byte)
  /-- `0x97` STA, mode `[d],y`, placeholder (R108). -/
  | staDirIndLongY (b : Byte)
  /-- `0x99` STA, mode `a,y`, placeholder (R108). -/
  | staAbsY (w : Word)
  /-- `0x9C` STZ, mode `a`, placeholder (R108). -/
  | stzAbs (w : Word)
  /-- `0x9D` STA, mode `a,x`, placeholder (R108). -/
  | staAbsX (w : Word)
  /-- `0x9E` STZ, mode `a,x`, placeholder (R108). -/
  | stzAbsX (w : Word)
  /-- `0x9F` STA, mode `al,x`, placeholder (R108). -/
  | staAbsLongX (l : Long)
  /-- `0xA0` LDY, mode `#x`, R203. -/
  | ldyImm (imm : Imm)
  /-- `0xA1` LDA, mode `(d,x)`, placeholder (R108). -/
  | ldaDirXInd (b : Byte)
  /-- `0xA2` LDX, mode `#x`, R202. -/
  | ldxImm (imm : Imm)
  /-- `0xA3` LDA, mode `d,s`, placeholder (R108). -/
  | ldaStk (b : Byte)
  /-- `0xA4` LDY, mode `d`, placeholder (R108). -/
  | ldyDir (b : Byte)
  /-- `0xA5` LDA, mode `d`, placeholder (R108). -/
  | ldaDir (b : Byte)
  /-- `0xA6` LDX, mode `d`, placeholder (R108). -/
  | ldxDir (b : Byte)
  /-- `0xA7` LDA, mode `[d]`, placeholder (R108). -/
  | ldaDirIndLong (b : Byte)
  /-- `0xA9` LDA, mode `#m`, R201. -/
  | ldaImm (imm : Imm)
  /-- `0xAC` LDY, mode `a`, placeholder (R108). -/
  | ldyAbs (w : Word)
  /-- `0xAD` LDA, mode `a`, placeholder (R108). -/
  | ldaAbs (w : Word)
  /-- `0xAE` LDX, mode `a`, placeholder (R108). -/
  | ldxAbs (w : Word)
  /-- `0xAF` LDA, mode `al`, placeholder (R108). -/
  | ldaAbsLong (l : Long)
  /-- `0xB0` BCS, mode `r`, placeholder (R108). -/
  | bcs (b : Byte)
  /-- `0xB1` LDA, mode `(d),y`, placeholder (R108). -/
  | ldaDirIndY (b : Byte)
  /-- `0xB2` LDA, mode `(d)`, placeholder (R108). -/
  | ldaDirInd (b : Byte)
  /-- `0xB3` LDA, mode `(d,s),y`, placeholder (R108). -/
  | ldaStkIndY (b : Byte)
  /-- `0xB4` LDY, mode `d,x`, placeholder (R108). -/
  | ldyDirX (b : Byte)
  /-- `0xB5` LDA, mode `d,x`, placeholder (R108). -/
  | ldaDirX (b : Byte)
  /-- `0xB6` LDX, mode `d,y`, placeholder (R108). -/
  | ldxDirY (b : Byte)
  /-- `0xB7` LDA, mode `[d],y`, placeholder (R108). -/
  | ldaDirIndLongY (b : Byte)
  /-- `0xB9` LDA, mode `a,y`, placeholder (R108). -/
  | ldaAbsY (w : Word)
  /-- `0xBC` LDY, mode `a,x`, placeholder (R108). -/
  | ldyAbsX (w : Word)
  /-- `0xBD` LDA, mode `a,x`, placeholder (R108). -/
  | ldaAbsX (w : Word)
  /-- `0xBE` LDX, mode `a,y`, placeholder (R108). -/
  | ldxAbsY (w : Word)
  /-- `0xBF` LDA, mode `al,x`, placeholder (R108). -/
  | ldaAbsLongX (l : Long)
  /-- `0xC0` CPY, mode `#x`, placeholder (R108). -/
  | cpyImm (imm : Imm)
  /-- `0xC1` CMP, mode `(d,x)`, placeholder (R108). -/
  | cmpDirXInd (b : Byte)
  /-- `0xC2` REP, mode `#8`, R173. -/
  | rep (mask : Byte)
  /-- `0xC3` CMP, mode `d,s`, placeholder (R108). -/
  | cmpStk (b : Byte)
  /-- `0xC4` CPY, mode `d`, placeholder (R108). -/
  | cpyDir (b : Byte)
  /-- `0xC5` CMP, mode `d`, placeholder (R108). -/
  | cmpDir (b : Byte)
  /-- `0xC6` DEC, mode `d`, placeholder (R108). -/
  | decDir (b : Byte)
  /-- `0xC7` CMP, mode `[d]`, placeholder (R108). -/
  | cmpDirIndLong (b : Byte)
  /-- `0xC9` CMP, mode `#m`, placeholder (R108). -/
  | cmpImm (imm : Imm)
  /-- `0xCC` CPY, mode `a`, placeholder (R108). -/
  | cpyAbs (w : Word)
  /-- `0xCD` CMP, mode `a`, placeholder (R108). -/
  | cmpAbs (w : Word)
  /-- `0xCE` DEC, mode `a`, placeholder (R108). -/
  | decAbs (w : Word)
  /-- `0xCF` CMP, mode `al`, placeholder (R108). -/
  | cmpAbsLong (l : Long)
  /-- `0xD0` BNE, mode `r`, placeholder (R108). -/
  | bne (b : Byte)
  /-- `0xD1` CMP, mode `(d),y`, placeholder (R108). -/
  | cmpDirIndY (b : Byte)
  /-- `0xD2` CMP, mode `(d)`, placeholder (R108). -/
  | cmpDirInd (b : Byte)
  /-- `0xD3` CMP, mode `(d,s),y`, placeholder (R108). -/
  | cmpStkIndY (b : Byte)
  /-- `0xD4` PEI, mode `s`, placeholder (R108). -/
  | pei (b : Byte)
  /-- `0xD5` CMP, mode `d,x`, placeholder (R108). -/
  | cmpDirX (b : Byte)
  /-- `0xD6` DEC, mode `d,x`, placeholder (R108). -/
  | decDirX (b : Byte)
  /-- `0xD7` CMP, mode `[d],y`, placeholder (R108). -/
  | cmpDirIndLongY (b : Byte)
  /-- `0xD9` CMP, mode `a,y`, placeholder (R108). -/
  | cmpAbsY (w : Word)
  /-- `0xDC` JMP, mode `[a]`, placeholder (R108). -/
  | jmpAbsIndLong (w : Word)
  /-- `0xDD` CMP, mode `a,x`, placeholder (R108). -/
  | cmpAbsX (w : Word)
  /-- `0xDE` DEC, mode `a,x`, placeholder (R108). -/
  | decAbsX (w : Word)
  /-- `0xDF` CMP, mode `al,x`, placeholder (R108). -/
  | cmpAbsLongX (l : Long)
  /-- `0xE0` CPX, mode `#x`, placeholder (R108). -/
  | cpxImm (imm : Imm)
  /-- `0xE1` SBC, mode `(d,x)`, placeholder (R108). -/
  | sbcDirXInd (b : Byte)
  /-- `0xE2` SEP, mode `#8`, R174. -/
  | sep (mask : Byte)
  /-- `0xE3` SBC, mode `d,s`, placeholder (R108). -/
  | sbcStk (b : Byte)
  /-- `0xE4` CPX, mode `d`, placeholder (R108). -/
  | cpxDir (b : Byte)
  /-- `0xE5` SBC, mode `d`, placeholder (R108). -/
  | sbcDir (b : Byte)
  /-- `0xE6` INC, mode `d`, placeholder (R108). -/
  | incDir (b : Byte)
  /-- `0xE7` SBC, mode `[d]`, placeholder (R108). -/
  | sbcDirIndLong (b : Byte)
  /-- `0xE9` SBC, mode `#m`, placeholder (R108). -/
  | sbcImm (imm : Imm)
  /-- `0xEC` CPX, mode `a`, placeholder (R108). -/
  | cpxAbs (w : Word)
  /-- `0xED` SBC, mode `a`, placeholder (R108). -/
  | sbcAbs (w : Word)
  /-- `0xEE` INC, mode `a`, placeholder (R108). -/
  | incAbs (w : Word)
  /-- `0xEF` SBC, mode `al`, placeholder (R108). -/
  | sbcAbsLong (l : Long)
  /-- `0xF0` BEQ, mode `r`, placeholder (R108). -/
  | beq (b : Byte)
  /-- `0xF1` SBC, mode `(d),y`, placeholder (R108). -/
  | sbcDirIndY (b : Byte)
  /-- `0xF2` SBC, mode `(d)`, placeholder (R108). -/
  | sbcDirInd (b : Byte)
  /-- `0xF3` SBC, mode `(d,s),y`, placeholder (R108). -/
  | sbcStkIndY (b : Byte)
  /-- `0xF4` PEA, mode `s`, placeholder (R108). -/
  | pea (w : Word)
  /-- `0xF5` SBC, mode `d,x`, placeholder (R108). -/
  | sbcDirX (b : Byte)
  /-- `0xF6` INC, mode `d,x`, placeholder (R108). -/
  | incDirX (b : Byte)
  /-- `0xF7` SBC, mode `[d],y`, placeholder (R108). -/
  | sbcDirIndLongY (b : Byte)
  /-- `0xF9` SBC, mode `a,y`, placeholder (R108). -/
  | sbcAbsY (w : Word)
  /-- `0xFC` JSR, mode `(a,x)`, placeholder (R108). -/
  | jsrAbsXInd (w : Word)
  /-- `0xFD` SBC, mode `a,x`, placeholder (R108). -/
  | sbcAbsX (w : Word)
  /-- `0xFE` INC, mode `a,x`, placeholder (R108). -/
  | incAbsX (w : Word)
  /-- `0xFF` SBC, mode `al,x`, placeholder (R108). -/
  | sbcAbsLongX (l : Long)
  /-- `0x08` PHP, mode `s`, placeholder (R108). -/
  | php
  /-- `0x0A` ASL, mode `A`, placeholder (R108). -/
  | aslAcc
  /-- `0x0B` PHD, mode `s`, placeholder (R108). -/
  | phd
  /-- `0x18` CLC, mode `i`, R170. -/
  | clc
  /-- `0x1A` INC, mode `A`, placeholder (R108). -/
  | incAcc
  /-- `0x1B` TCS, mode `i`, placeholder (R108). -/
  | tcs
  /-- `0x28` PLP, mode `s`, placeholder (R108). -/
  | plp
  /-- `0x2A` ROL, mode `A`, placeholder (R108). -/
  | rolAcc
  /-- `0x2B` PLD, mode `s`, placeholder (R108). -/
  | pld
  /-- `0x38` SEC, mode `i`, R171. -/
  | sec
  /-- `0x3A` DEC, mode `A`, placeholder (R108). -/
  | decAcc
  /-- `0x3B` TSC, mode `i`, placeholder (R108). -/
  | tsc
  /-- `0x40` RTI, mode `s`, placeholder (R108). -/
  | rti
  /-- `0x48` PHA, mode `s`, placeholder (R108). -/
  | pha
  /-- `0x4A` LSR, mode `A`, placeholder (R108). -/
  | lsrAcc
  /-- `0x4B` PHK, mode `s`, placeholder (R108). -/
  | phk
  /-- `0x58` CLI, mode `i`, placeholder (R108). -/
  | cli
  /-- `0x5A` PHY, mode `s`, placeholder (R108). -/
  | phy
  /-- `0x5B` TCD, mode `i`, placeholder (R108). -/
  | tcd
  /-- `0x60` RTS, mode `s`, placeholder (R108). -/
  | rts
  /-- `0x68` PLA, mode `s`, placeholder (R108). -/
  | pla
  /-- `0x6A` ROR, mode `A`, placeholder (R108). -/
  | rorAcc
  /-- `0x6B` RTL, mode `s`, placeholder (R108). -/
  | rtl
  /-- `0x78` SEI, mode `i`, placeholder (R108). -/
  | sei
  /-- `0x7A` PLY, mode `s`, placeholder (R108). -/
  | ply
  /-- `0x7B` TDC, mode `i`, placeholder (R108). -/
  | tdc
  /-- `0x88` DEY, mode `i`, R234. -/
  | dey
  /-- `0x8A` TXA, mode `i`, placeholder (R108). -/
  | txa
  /-- `0x8B` PHB, mode `s`, placeholder (R108). -/
  | phb
  /-- `0x98` TYA, mode `i`, placeholder (R108). -/
  | tya
  /-- `0x9A` TXS, mode `i`, placeholder (R108). -/
  | txs
  /-- `0x9B` TXY, mode `i`, placeholder (R108). -/
  | txy
  /-- `0xA8` TAY, mode `i`, placeholder (R108). -/
  | tay
  /-- `0xAA` TAX, mode `i`, R235. -/
  | tax
  /-- `0xAB` PLB, mode `s`, placeholder (R108). -/
  | plb
  /-- `0xB8` CLV, mode `i`, placeholder (R108). -/
  | clv
  /-- `0xBA` TSX, mode `i`, placeholder (R108). -/
  | tsx
  /-- `0xBB` TYX, mode `i`, placeholder (R108). -/
  | tyx
  /-- `0xC8` INY, mode `i`, R232. -/
  | iny
  /-- `0xCA` DEX, mode `i`, R233. -/
  | dex
  /-- `0xCB` WAI, mode `i`, R252. -/
  | wai
  /-- `0xD8` CLD, mode `i`, placeholder (R108). -/
  | cld
  /-- `0xDA` PHX, mode `s`, placeholder (R108). -/
  | phx
  /-- `0xDB` STP, mode `i`, R251. -/
  | stp
  /-- `0xE8` INX, mode `i`, R231. -/
  | inx
  /-- `0xEA` NOP, mode `i`, R250. -/
  | nop
  /-- `0xEB` XBA, mode `i`, placeholder (R108). -/
  | xba
  /-- `0xF8` SED, mode `i`, placeholder (R108). -/
  | sed
  /-- `0xFA` PLX, mode `s`, placeholder (R108). -/
  | plx
  /-- `0xFB` XCE, mode `i`, R172. -/
  | xce
  deriving DecidableEq, Repr

end Sys2Proof
end

