-- ==== Sys2Proof/WellFormed.lean ====
section
/-!
DEFINITION. WellFormed.lean: which instruction terms are instructions under given width flags. The only condition
the spec puts on an operand beyond its type is the width of an immediate: 8 bits when `P.M` (format IMMM) or `P.X`
(format IMMX) is 1, 16 bits when it is 0 (spec/30_encoding.md R101, R103, R107).
-/

namespace Sys2Proof

/-- An immediate has the width that the flag selects: 1 is 8 bits, 0 is 16 bits (R103). -/
def Imm.fits (narrow : Bool) : Imm → Bool
  | .b8 _ => narrow
  | .w16 _ => !narrow

/-- `i` is an instruction when `P.M = m` and `P.X = x`. -/
def WellFormed (m x : Bool) : Instr → Bool
  | .oraImm imm | .andImm imm | .eorImm imm | .adcImm imm | .bitImm imm | .ldaImm imm | .cmpImm imm
  | .sbcImm imm => imm.fits m
  | .ldyImm imm | .ldxImm imm | .cpyImm imm | .cpxImm imm => imm.fits x
  | .brk _ | .oraDirXInd _ | .cop _ | .oraStk _ | .tsbDir _ | .oraDir _ | .aslDir _ | .oraDirIndLong _ | .php
  | .aslAcc | .phd | .tsbAbs _ | .oraAbs _ | .aslAbs _ | .oraAbsLong _ | .bpl _ | .oraDirIndY _
  | .oraDirInd _ | .oraStkIndY _ | .trbDir _ | .oraDirX _ | .aslDirX _ | .oraDirIndLongY _ | .clc
  | .oraAbsY _ | .incAcc | .tcs | .trbAbs _ | .oraAbsX _ | .aslAbsX _ | .oraAbsLongX _ | .jsrAbs _
  | .andDirXInd _ | .jslAbsLong _ | .andStk _ | .bitDir _ | .andDir _ | .rolDir _ | .andDirIndLong _ | .plp
  | .rolAcc | .pld | .bitAbs _ | .andAbs _ | .rolAbs _ | .andAbsLong _ | .bmi _ | .andDirIndY _
  | .andDirInd _ | .andStkIndY _ | .bitDirX _ | .andDirX _ | .rolDirX _ | .andDirIndLongY _ | .sec
  | .andAbsY _ | .decAcc | .tsc | .bitAbsX _ | .andAbsX _ | .rolAbsX _ | .andAbsLongX _ | .rti
  | .eorDirXInd _ | .wdm _ | .eorStk _ | .mvp _ | .eorDir _ | .lsrDir _ | .eorDirIndLong _ | .pha | .lsrAcc
  | .phk | .jmpAbs _ | .eorAbs _ | .lsrAbs _ | .eorAbsLong _ | .bvc _ | .eorDirIndY _ | .eorDirInd _
  | .eorStkIndY _ | .mvn _ | .eorDirX _ | .lsrDirX _ | .eorDirIndLongY _ | .cli | .eorAbsY _ | .phy | .tcd
  | .jmpAbsLong _ | .eorAbsX _ | .lsrAbsX _ | .eorAbsLongX _ | .rts | .adcDirXInd _ | .per _ | .adcStk _
  | .stzDir _ | .adcDir _ | .rorDir _ | .adcDirIndLong _ | .pla | .rorAcc | .rtl | .jmpAbsInd _ | .adcAbs _
  | .rorAbs _ | .adcAbsLong _ | .bvs _ | .adcDirIndY _ | .adcDirInd _ | .adcStkIndY _ | .stzDirX _
  | .adcDirX _ | .rorDirX _ | .adcDirIndLongY _ | .sei | .adcAbsY _ | .ply | .tdc | .jmpAbsXInd _
  | .adcAbsX _ | .rorAbsX _ | .adcAbsLongX _ | .bra _ | .staDirXInd _ | .brl _ | .staStk _ | .styDir _
  | .staDir _ | .stxDir _ | .staDirIndLong _ | .dey | .txa | .phb | .styAbs _ | .staAbs _ | .stxAbs _
  | .staAbsLong _ | .bcc _ | .staDirIndY _ | .staDirInd _ | .staStkIndY _ | .styDirX _ | .staDirX _
  | .stxDirY _ | .staDirIndLongY _ | .tya | .staAbsY _ | .txs | .txy | .stzAbs _ | .staAbsX _ | .stzAbsX _
  | .staAbsLongX _ | .ldaDirXInd _ | .ldaStk _ | .ldyDir _ | .ldaDir _ | .ldxDir _ | .ldaDirIndLong _ | .tay
  | .tax | .plb | .ldyAbs _ | .ldaAbs _ | .ldxAbs _ | .ldaAbsLong _ | .bcs _ | .ldaDirIndY _ | .ldaDirInd _
  | .ldaStkIndY _ | .ldyDirX _ | .ldaDirX _ | .ldxDirY _ | .ldaDirIndLongY _ | .clv | .ldaAbsY _ | .tsx
  | .tyx | .ldyAbsX _ | .ldaAbsX _ | .ldxAbsY _ | .ldaAbsLongX _ | .cmpDirXInd _ | .rep _ | .cmpStk _
  | .cpyDir _ | .cmpDir _ | .decDir _ | .cmpDirIndLong _ | .iny | .dex | .wai | .cpyAbs _ | .cmpAbs _
  | .decAbs _ | .cmpAbsLong _ | .bne _ | .cmpDirIndY _ | .cmpDirInd _ | .cmpStkIndY _ | .pei _ | .cmpDirX _
  | .decDirX _ | .cmpDirIndLongY _ | .cld | .cmpAbsY _ | .phx | .stp | .jmpAbsIndLong _ | .cmpAbsX _
  | .decAbsX _ | .cmpAbsLongX _ | .sbcDirXInd _ | .sep _ | .sbcStk _ | .cpxDir _ | .sbcDir _ | .incDir _
  | .sbcDirIndLong _ | .inx | .nop | .xba | .cpxAbs _ | .sbcAbs _ | .incAbs _ | .sbcAbsLong _ | .beq _
  | .sbcDirIndY _ | .sbcDirInd _ | .sbcStkIndY _ | .pea _ | .sbcDirX _ | .incDirX _ | .sbcDirIndLongY _
  | .sed | .sbcAbsY _ | .plx | .xce | .jsrAbsXInd _ | .sbcAbsX _ | .incAbsX _ | .sbcAbsLongX _ => true

end Sys2Proof
end

