-- ==== Sys2Proof/Decode.lean ====
section
/-!
DEFINITION. Decode.lean: from bytes to an instruction and back. Decoding is a 256-way lookup on the whole opcode
byte (spec/30_encoding.md R100); there is no illegal opcode (R108), so every window of bytes decodes, and a byte list
is rejected only when it ends before the instruction does. Operands are assembled least significant byte first with no
extension (R102); the length of an immediate is chosen by the width flags (R103). The encoder after it is written from
the format table R101.
-/

namespace Sys2Proof

/-- Why a byte list is no instruction. -/
inductive DecodeError where
  /-- There is no opcode byte. -/
  | empty
  /-- The list ends before the operand bytes of this opcode. -/
  | truncated (opcode : Byte)
  deriving DecidableEq, Repr

/-- `addr16 = byte2 : byte1` (R102). -/
def operandWord (b1 b2 : Byte) : Word := mkWord b2 b1

/-- `addr24 = byte3 : byte2 : byte1` (R102). -/
def operandLong (b1 b2 b3 : Byte) : Long := mkLong b3 (mkWord b2 b1)

/-- An immediate under a width flag: one byte when the flag is 1, two bytes when it is 0 (R101, R103). -/
def operandImm (narrow : Bool) (b1 b2 : Byte) : Imm :=
  if narrow then .b8 b1 else .w16 (operandWord b1 b2)

/-- Row `0x` of the opcode map (R105), by the low digit of the opcode. -/
def decodeRow0 (m _x : Bool) (low : Nat) (b1 b2 b3 : Byte) : Instr :=
  match low with
  | 0 => .brk b1
  | 1 => .oraDirXInd b1
  | 2 => .cop b1
  | 3 => .oraStk b1
  | 4 => .tsbDir b1
  | 5 => .oraDir b1
  | 6 => .aslDir b1
  | 7 => .oraDirIndLong b1
  | 8 => .php
  | 9 => .oraImm (operandImm m b1 b2)
  | 10 => .aslAcc
  | 11 => .phd
  | 12 => .tsbAbs (operandWord b1 b2)
  | 13 => .oraAbs (operandWord b1 b2)
  | 14 => .aslAbs (operandWord b1 b2)
  | _ => .oraAbsLong (operandLong b1 b2 b3)

/-- Row `1x` of the opcode map (R105), by the low digit of the opcode. -/
def decodeRow1 (_m _x : Bool) (low : Nat) (b1 b2 b3 : Byte) : Instr :=
  match low with
  | 0 => .bpl b1
  | 1 => .oraDirIndY b1
  | 2 => .oraDirInd b1
  | 3 => .oraStkIndY b1
  | 4 => .trbDir b1
  | 5 => .oraDirX b1
  | 6 => .aslDirX b1
  | 7 => .oraDirIndLongY b1
  | 8 => .clc
  | 9 => .oraAbsY (operandWord b1 b2)
  | 10 => .incAcc
  | 11 => .tcs
  | 12 => .trbAbs (operandWord b1 b2)
  | 13 => .oraAbsX (operandWord b1 b2)
  | 14 => .aslAbsX (operandWord b1 b2)
  | _ => .oraAbsLongX (operandLong b1 b2 b3)

/-- Row `2x` of the opcode map (R105), by the low digit of the opcode. -/
def decodeRow2 (m _x : Bool) (low : Nat) (b1 b2 b3 : Byte) : Instr :=
  match low with
  | 0 => .jsrAbs (operandWord b1 b2)
  | 1 => .andDirXInd b1
  | 2 => .jslAbsLong (operandLong b1 b2 b3)
  | 3 => .andStk b1
  | 4 => .bitDir b1
  | 5 => .andDir b1
  | 6 => .rolDir b1
  | 7 => .andDirIndLong b1
  | 8 => .plp
  | 9 => .andImm (operandImm m b1 b2)
  | 10 => .rolAcc
  | 11 => .pld
  | 12 => .bitAbs (operandWord b1 b2)
  | 13 => .andAbs (operandWord b1 b2)
  | 14 => .rolAbs (operandWord b1 b2)
  | _ => .andAbsLong (operandLong b1 b2 b3)

/-- Row `3x` of the opcode map (R105), by the low digit of the opcode. -/
def decodeRow3 (_m _x : Bool) (low : Nat) (b1 b2 b3 : Byte) : Instr :=
  match low with
  | 0 => .bmi b1
  | 1 => .andDirIndY b1
  | 2 => .andDirInd b1
  | 3 => .andStkIndY b1
  | 4 => .bitDirX b1
  | 5 => .andDirX b1
  | 6 => .rolDirX b1
  | 7 => .andDirIndLongY b1
  | 8 => .sec
  | 9 => .andAbsY (operandWord b1 b2)
  | 10 => .decAcc
  | 11 => .tsc
  | 12 => .bitAbsX (operandWord b1 b2)
  | 13 => .andAbsX (operandWord b1 b2)
  | 14 => .rolAbsX (operandWord b1 b2)
  | _ => .andAbsLongX (operandLong b1 b2 b3)

/-- Row `4x` of the opcode map (R105), by the low digit of the opcode. -/
def decodeRow4 (m _x : Bool) (low : Nat) (b1 b2 b3 : Byte) : Instr :=
  match low with
  | 0 => .rti
  | 1 => .eorDirXInd b1
  | 2 => .wdm b1
  | 3 => .eorStk b1
  | 4 => .mvp (operandWord b1 b2)
  | 5 => .eorDir b1
  | 6 => .lsrDir b1
  | 7 => .eorDirIndLong b1
  | 8 => .pha
  | 9 => .eorImm (operandImm m b1 b2)
  | 10 => .lsrAcc
  | 11 => .phk
  | 12 => .jmpAbs (operandWord b1 b2)
  | 13 => .eorAbs (operandWord b1 b2)
  | 14 => .lsrAbs (operandWord b1 b2)
  | _ => .eorAbsLong (operandLong b1 b2 b3)

/-- Row `5x` of the opcode map (R105), by the low digit of the opcode. -/
def decodeRow5 (_m _x : Bool) (low : Nat) (b1 b2 b3 : Byte) : Instr :=
  match low with
  | 0 => .bvc b1
  | 1 => .eorDirIndY b1
  | 2 => .eorDirInd b1
  | 3 => .eorStkIndY b1
  | 4 => .mvn (operandWord b1 b2)
  | 5 => .eorDirX b1
  | 6 => .lsrDirX b1
  | 7 => .eorDirIndLongY b1
  | 8 => .cli
  | 9 => .eorAbsY (operandWord b1 b2)
  | 10 => .phy
  | 11 => .tcd
  | 12 => .jmpAbsLong (operandLong b1 b2 b3)
  | 13 => .eorAbsX (operandWord b1 b2)
  | 14 => .lsrAbsX (operandWord b1 b2)
  | _ => .eorAbsLongX (operandLong b1 b2 b3)

/-- Row `6x` of the opcode map (R105), by the low digit of the opcode. -/
def decodeRow6 (m _x : Bool) (low : Nat) (b1 b2 b3 : Byte) : Instr :=
  match low with
  | 0 => .rts
  | 1 => .adcDirXInd b1
  | 2 => .per (operandWord b1 b2)
  | 3 => .adcStk b1
  | 4 => .stzDir b1
  | 5 => .adcDir b1
  | 6 => .rorDir b1
  | 7 => .adcDirIndLong b1
  | 8 => .pla
  | 9 => .adcImm (operandImm m b1 b2)
  | 10 => .rorAcc
  | 11 => .rtl
  | 12 => .jmpAbsInd (operandWord b1 b2)
  | 13 => .adcAbs (operandWord b1 b2)
  | 14 => .rorAbs (operandWord b1 b2)
  | _ => .adcAbsLong (operandLong b1 b2 b3)

/-- Row `7x` of the opcode map (R105), by the low digit of the opcode. -/
def decodeRow7 (_m _x : Bool) (low : Nat) (b1 b2 b3 : Byte) : Instr :=
  match low with
  | 0 => .bvs b1
  | 1 => .adcDirIndY b1
  | 2 => .adcDirInd b1
  | 3 => .adcStkIndY b1
  | 4 => .stzDirX b1
  | 5 => .adcDirX b1
  | 6 => .rorDirX b1
  | 7 => .adcDirIndLongY b1
  | 8 => .sei
  | 9 => .adcAbsY (operandWord b1 b2)
  | 10 => .ply
  | 11 => .tdc
  | 12 => .jmpAbsXInd (operandWord b1 b2)
  | 13 => .adcAbsX (operandWord b1 b2)
  | 14 => .rorAbsX (operandWord b1 b2)
  | _ => .adcAbsLongX (operandLong b1 b2 b3)

/-- Row `8x` of the opcode map (R105), by the low digit of the opcode. -/
def decodeRow8 (m _x : Bool) (low : Nat) (b1 b2 b3 : Byte) : Instr :=
  match low with
  | 0 => .bra b1
  | 1 => .staDirXInd b1
  | 2 => .brl (operandWord b1 b2)
  | 3 => .staStk b1
  | 4 => .styDir b1
  | 5 => .staDir b1
  | 6 => .stxDir b1
  | 7 => .staDirIndLong b1
  | 8 => .dey
  | 9 => .bitImm (operandImm m b1 b2)
  | 10 => .txa
  | 11 => .phb
  | 12 => .styAbs (operandWord b1 b2)
  | 13 => .staAbs (operandWord b1 b2)
  | 14 => .stxAbs (operandWord b1 b2)
  | _ => .staAbsLong (operandLong b1 b2 b3)

/-- Row `9x` of the opcode map (R105), by the low digit of the opcode. -/
def decodeRow9 (_m _x : Bool) (low : Nat) (b1 b2 b3 : Byte) : Instr :=
  match low with
  | 0 => .bcc b1
  | 1 => .staDirIndY b1
  | 2 => .staDirInd b1
  | 3 => .staStkIndY b1
  | 4 => .styDirX b1
  | 5 => .staDirX b1
  | 6 => .stxDirY b1
  | 7 => .staDirIndLongY b1
  | 8 => .tya
  | 9 => .staAbsY (operandWord b1 b2)
  | 10 => .txs
  | 11 => .txy
  | 12 => .stzAbs (operandWord b1 b2)
  | 13 => .staAbsX (operandWord b1 b2)
  | 14 => .stzAbsX (operandWord b1 b2)
  | _ => .staAbsLongX (operandLong b1 b2 b3)

/-- Row `Ax` of the opcode map (R105), by the low digit of the opcode. -/
def decodeRowA (m x : Bool) (low : Nat) (b1 b2 b3 : Byte) : Instr :=
  match low with
  | 0 => .ldyImm (operandImm x b1 b2)
  | 1 => .ldaDirXInd b1
  | 2 => .ldxImm (operandImm x b1 b2)
  | 3 => .ldaStk b1
  | 4 => .ldyDir b1
  | 5 => .ldaDir b1
  | 6 => .ldxDir b1
  | 7 => .ldaDirIndLong b1
  | 8 => .tay
  | 9 => .ldaImm (operandImm m b1 b2)
  | 10 => .tax
  | 11 => .plb
  | 12 => .ldyAbs (operandWord b1 b2)
  | 13 => .ldaAbs (operandWord b1 b2)
  | 14 => .ldxAbs (operandWord b1 b2)
  | _ => .ldaAbsLong (operandLong b1 b2 b3)

/-- Row `Bx` of the opcode map (R105), by the low digit of the opcode. -/
def decodeRowB (_m _x : Bool) (low : Nat) (b1 b2 b3 : Byte) : Instr :=
  match low with
  | 0 => .bcs b1
  | 1 => .ldaDirIndY b1
  | 2 => .ldaDirInd b1
  | 3 => .ldaStkIndY b1
  | 4 => .ldyDirX b1
  | 5 => .ldaDirX b1
  | 6 => .ldxDirY b1
  | 7 => .ldaDirIndLongY b1
  | 8 => .clv
  | 9 => .ldaAbsY (operandWord b1 b2)
  | 10 => .tsx
  | 11 => .tyx
  | 12 => .ldyAbsX (operandWord b1 b2)
  | 13 => .ldaAbsX (operandWord b1 b2)
  | 14 => .ldxAbsY (operandWord b1 b2)
  | _ => .ldaAbsLongX (operandLong b1 b2 b3)

/-- Row `Cx` of the opcode map (R105), by the low digit of the opcode. -/
def decodeRowC (m x : Bool) (low : Nat) (b1 b2 b3 : Byte) : Instr :=
  match low with
  | 0 => .cpyImm (operandImm x b1 b2)
  | 1 => .cmpDirXInd b1
  | 2 => .rep b1
  | 3 => .cmpStk b1
  | 4 => .cpyDir b1
  | 5 => .cmpDir b1
  | 6 => .decDir b1
  | 7 => .cmpDirIndLong b1
  | 8 => .iny
  | 9 => .cmpImm (operandImm m b1 b2)
  | 10 => .dex
  | 11 => .wai
  | 12 => .cpyAbs (operandWord b1 b2)
  | 13 => .cmpAbs (operandWord b1 b2)
  | 14 => .decAbs (operandWord b1 b2)
  | _ => .cmpAbsLong (operandLong b1 b2 b3)

/-- Row `Dx` of the opcode map (R105), by the low digit of the opcode. -/
def decodeRowD (_m _x : Bool) (low : Nat) (b1 b2 b3 : Byte) : Instr :=
  match low with
  | 0 => .bne b1
  | 1 => .cmpDirIndY b1
  | 2 => .cmpDirInd b1
  | 3 => .cmpStkIndY b1
  | 4 => .pei b1
  | 5 => .cmpDirX b1
  | 6 => .decDirX b1
  | 7 => .cmpDirIndLongY b1
  | 8 => .cld
  | 9 => .cmpAbsY (operandWord b1 b2)
  | 10 => .phx
  | 11 => .stp
  | 12 => .jmpAbsIndLong (operandWord b1 b2)
  | 13 => .cmpAbsX (operandWord b1 b2)
  | 14 => .decAbsX (operandWord b1 b2)
  | _ => .cmpAbsLongX (operandLong b1 b2 b3)

/-- Row `Ex` of the opcode map (R105), by the low digit of the opcode. -/
def decodeRowE (m x : Bool) (low : Nat) (b1 b2 b3 : Byte) : Instr :=
  match low with
  | 0 => .cpxImm (operandImm x b1 b2)
  | 1 => .sbcDirXInd b1
  | 2 => .sep b1
  | 3 => .sbcStk b1
  | 4 => .cpxDir b1
  | 5 => .sbcDir b1
  | 6 => .incDir b1
  | 7 => .sbcDirIndLong b1
  | 8 => .inx
  | 9 => .sbcImm (operandImm m b1 b2)
  | 10 => .nop
  | 11 => .xba
  | 12 => .cpxAbs (operandWord b1 b2)
  | 13 => .sbcAbs (operandWord b1 b2)
  | 14 => .incAbs (operandWord b1 b2)
  | _ => .sbcAbsLong (operandLong b1 b2 b3)

/-- Row `Fx` of the opcode map (R105), by the low digit of the opcode. -/
def decodeRowF (_m _x : Bool) (low : Nat) (b1 b2 b3 : Byte) : Instr :=
  match low with
  | 0 => .beq b1
  | 1 => .sbcDirIndY b1
  | 2 => .sbcDirInd b1
  | 3 => .sbcStkIndY b1
  | 4 => .pea (operandWord b1 b2)
  | 5 => .sbcDirX b1
  | 6 => .incDirX b1
  | 7 => .sbcDirIndLongY b1
  | 8 => .sed
  | 9 => .sbcAbsY (operandWord b1 b2)
  | 10 => .plx
  | 11 => .xce
  | 12 => .jsrAbsXInd (operandWord b1 b2)
  | 13 => .sbcAbsX (operandWord b1 b2)
  | 14 => .incAbsX (operandWord b1 b2)
  | _ => .sbcAbsLongX (operandLong b1 b2 b3)

/-- The instruction whose opcode byte is `b0` and whose next bytes are `b1 b2 b3`, under `P.M = m` and `P.X = x`
(R100, R103): the bytes past the instruction's own length are not looked at. -/
def decodeWindow (m x : Bool) (b0 b1 b2 b3 : Byte) : Instr :=
  let low := b0.toNat % 16
  match b0.toNat / 16 with
  | 0 => decodeRow0 m x low b1 b2 b3
  | 1 => decodeRow1 m x low b1 b2 b3
  | 2 => decodeRow2 m x low b1 b2 b3
  | 3 => decodeRow3 m x low b1 b2 b3
  | 4 => decodeRow4 m x low b1 b2 b3
  | 5 => decodeRow5 m x low b1 b2 b3
  | 6 => decodeRow6 m x low b1 b2 b3
  | 7 => decodeRow7 m x low b1 b2 b3
  | 8 => decodeRow8 m x low b1 b2 b3
  | 9 => decodeRow9 m x low b1 b2 b3
  | 10 => decodeRowA m x low b1 b2 b3
  | 11 => decodeRowB m x low b1 b2 b3
  | 12 => decodeRowC m x low b1 b2 b3
  | 13 => decodeRowD m x low b1 b2 b3
  | 14 => decodeRowE m x low b1 b2 b3
  | _ => decodeRowF m x low b1 b2 b3

/-- The opcode byte of an instruction (R105). -/
def opcodeByte : Instr → Byte
  | .brk _ => 0x00
  | .oraDirXInd _ => 0x01
  | .cop _ => 0x02
  | .oraStk _ => 0x03
  | .tsbDir _ => 0x04
  | .oraDir _ => 0x05
  | .aslDir _ => 0x06
  | .oraDirIndLong _ => 0x07
  | .php => 0x08
  | .oraImm _ => 0x09
  | .aslAcc => 0x0A
  | .phd => 0x0B
  | .tsbAbs _ => 0x0C
  | .oraAbs _ => 0x0D
  | .aslAbs _ => 0x0E
  | .oraAbsLong _ => 0x0F
  | .bpl _ => 0x10
  | .oraDirIndY _ => 0x11
  | .oraDirInd _ => 0x12
  | .oraStkIndY _ => 0x13
  | .trbDir _ => 0x14
  | .oraDirX _ => 0x15
  | .aslDirX _ => 0x16
  | .oraDirIndLongY _ => 0x17
  | .clc => 0x18
  | .oraAbsY _ => 0x19
  | .incAcc => 0x1A
  | .tcs => 0x1B
  | .trbAbs _ => 0x1C
  | .oraAbsX _ => 0x1D
  | .aslAbsX _ => 0x1E
  | .oraAbsLongX _ => 0x1F
  | .jsrAbs _ => 0x20
  | .andDirXInd _ => 0x21
  | .jslAbsLong _ => 0x22
  | .andStk _ => 0x23
  | .bitDir _ => 0x24
  | .andDir _ => 0x25
  | .rolDir _ => 0x26
  | .andDirIndLong _ => 0x27
  | .plp => 0x28
  | .andImm _ => 0x29
  | .rolAcc => 0x2A
  | .pld => 0x2B
  | .bitAbs _ => 0x2C
  | .andAbs _ => 0x2D
  | .rolAbs _ => 0x2E
  | .andAbsLong _ => 0x2F
  | .bmi _ => 0x30
  | .andDirIndY _ => 0x31
  | .andDirInd _ => 0x32
  | .andStkIndY _ => 0x33
  | .bitDirX _ => 0x34
  | .andDirX _ => 0x35
  | .rolDirX _ => 0x36
  | .andDirIndLongY _ => 0x37
  | .sec => 0x38
  | .andAbsY _ => 0x39
  | .decAcc => 0x3A
  | .tsc => 0x3B
  | .bitAbsX _ => 0x3C
  | .andAbsX _ => 0x3D
  | .rolAbsX _ => 0x3E
  | .andAbsLongX _ => 0x3F
  | .rti => 0x40
  | .eorDirXInd _ => 0x41
  | .wdm _ => 0x42
  | .eorStk _ => 0x43
  | .mvp _ => 0x44
  | .eorDir _ => 0x45
  | .lsrDir _ => 0x46
  | .eorDirIndLong _ => 0x47
  | .pha => 0x48
  | .eorImm _ => 0x49
  | .lsrAcc => 0x4A
  | .phk => 0x4B
  | .jmpAbs _ => 0x4C
  | .eorAbs _ => 0x4D
  | .lsrAbs _ => 0x4E
  | .eorAbsLong _ => 0x4F
  | .bvc _ => 0x50
  | .eorDirIndY _ => 0x51
  | .eorDirInd _ => 0x52
  | .eorStkIndY _ => 0x53
  | .mvn _ => 0x54
  | .eorDirX _ => 0x55
  | .lsrDirX _ => 0x56
  | .eorDirIndLongY _ => 0x57
  | .cli => 0x58
  | .eorAbsY _ => 0x59
  | .phy => 0x5A
  | .tcd => 0x5B
  | .jmpAbsLong _ => 0x5C
  | .eorAbsX _ => 0x5D
  | .lsrAbsX _ => 0x5E
  | .eorAbsLongX _ => 0x5F
  | .rts => 0x60
  | .adcDirXInd _ => 0x61
  | .per _ => 0x62
  | .adcStk _ => 0x63
  | .stzDir _ => 0x64
  | .adcDir _ => 0x65
  | .rorDir _ => 0x66
  | .adcDirIndLong _ => 0x67
  | .pla => 0x68
  | .adcImm _ => 0x69
  | .rorAcc => 0x6A
  | .rtl => 0x6B
  | .jmpAbsInd _ => 0x6C
  | .adcAbs _ => 0x6D
  | .rorAbs _ => 0x6E
  | .adcAbsLong _ => 0x6F
  | .bvs _ => 0x70
  | .adcDirIndY _ => 0x71
  | .adcDirInd _ => 0x72
  | .adcStkIndY _ => 0x73
  | .stzDirX _ => 0x74
  | .adcDirX _ => 0x75
  | .rorDirX _ => 0x76
  | .adcDirIndLongY _ => 0x77
  | .sei => 0x78
  | .adcAbsY _ => 0x79
  | .ply => 0x7A
  | .tdc => 0x7B
  | .jmpAbsXInd _ => 0x7C
  | .adcAbsX _ => 0x7D
  | .rorAbsX _ => 0x7E
  | .adcAbsLongX _ => 0x7F
  | .bra _ => 0x80
  | .staDirXInd _ => 0x81
  | .brl _ => 0x82
  | .staStk _ => 0x83
  | .styDir _ => 0x84
  | .staDir _ => 0x85
  | .stxDir _ => 0x86
  | .staDirIndLong _ => 0x87
  | .dey => 0x88
  | .bitImm _ => 0x89
  | .txa => 0x8A
  | .phb => 0x8B
  | .styAbs _ => 0x8C
  | .staAbs _ => 0x8D
  | .stxAbs _ => 0x8E
  | .staAbsLong _ => 0x8F
  | .bcc _ => 0x90
  | .staDirIndY _ => 0x91
  | .staDirInd _ => 0x92
  | .staStkIndY _ => 0x93
  | .styDirX _ => 0x94
  | .staDirX _ => 0x95
  | .stxDirY _ => 0x96
  | .staDirIndLongY _ => 0x97
  | .tya => 0x98
  | .staAbsY _ => 0x99
  | .txs => 0x9A
  | .txy => 0x9B
  | .stzAbs _ => 0x9C
  | .staAbsX _ => 0x9D
  | .stzAbsX _ => 0x9E
  | .staAbsLongX _ => 0x9F
  | .ldyImm _ => 0xA0
  | .ldaDirXInd _ => 0xA1
  | .ldxImm _ => 0xA2
  | .ldaStk _ => 0xA3
  | .ldyDir _ => 0xA4
  | .ldaDir _ => 0xA5
  | .ldxDir _ => 0xA6
  | .ldaDirIndLong _ => 0xA7
  | .tay => 0xA8
  | .ldaImm _ => 0xA9
  | .tax => 0xAA
  | .plb => 0xAB
  | .ldyAbs _ => 0xAC
  | .ldaAbs _ => 0xAD
  | .ldxAbs _ => 0xAE
  | .ldaAbsLong _ => 0xAF
  | .bcs _ => 0xB0
  | .ldaDirIndY _ => 0xB1
  | .ldaDirInd _ => 0xB2
  | .ldaStkIndY _ => 0xB3
  | .ldyDirX _ => 0xB4
  | .ldaDirX _ => 0xB5
  | .ldxDirY _ => 0xB6
  | .ldaDirIndLongY _ => 0xB7
  | .clv => 0xB8
  | .ldaAbsY _ => 0xB9
  | .tsx => 0xBA
  | .tyx => 0xBB
  | .ldyAbsX _ => 0xBC
  | .ldaAbsX _ => 0xBD
  | .ldxAbsY _ => 0xBE
  | .ldaAbsLongX _ => 0xBF
  | .cpyImm _ => 0xC0
  | .cmpDirXInd _ => 0xC1
  | .rep _ => 0xC2
  | .cmpStk _ => 0xC3
  | .cpyDir _ => 0xC4
  | .cmpDir _ => 0xC5
  | .decDir _ => 0xC6
  | .cmpDirIndLong _ => 0xC7
  | .iny => 0xC8
  | .cmpImm _ => 0xC9
  | .dex => 0xCA
  | .wai => 0xCB
  | .cpyAbs _ => 0xCC
  | .cmpAbs _ => 0xCD
  | .decAbs _ => 0xCE
  | .cmpAbsLong _ => 0xCF
  | .bne _ => 0xD0
  | .cmpDirIndY _ => 0xD1
  | .cmpDirInd _ => 0xD2
  | .cmpStkIndY _ => 0xD3
  | .pei _ => 0xD4
  | .cmpDirX _ => 0xD5
  | .decDirX _ => 0xD6
  | .cmpDirIndLongY _ => 0xD7
  | .cld => 0xD8
  | .cmpAbsY _ => 0xD9
  | .phx => 0xDA
  | .stp => 0xDB
  | .jmpAbsIndLong _ => 0xDC
  | .cmpAbsX _ => 0xDD
  | .decAbsX _ => 0xDE
  | .cmpAbsLongX _ => 0xDF
  | .cpxImm _ => 0xE0
  | .sbcDirXInd _ => 0xE1
  | .sep _ => 0xE2
  | .sbcStk _ => 0xE3
  | .cpxDir _ => 0xE4
  | .sbcDir _ => 0xE5
  | .incDir _ => 0xE6
  | .sbcDirIndLong _ => 0xE7
  | .inx => 0xE8
  | .sbcImm _ => 0xE9
  | .nop => 0xEA
  | .xba => 0xEB
  | .cpxAbs _ => 0xEC
  | .sbcAbs _ => 0xED
  | .incAbs _ => 0xEE
  | .sbcAbsLong _ => 0xEF
  | .beq _ => 0xF0
  | .sbcDirIndY _ => 0xF1
  | .sbcDirInd _ => 0xF2
  | .sbcStkIndY _ => 0xF3
  | .pea _ => 0xF4
  | .sbcDirX _ => 0xF5
  | .incDirX _ => 0xF6
  | .sbcDirIndLongY _ => 0xF7
  | .sed => 0xF8
  | .sbcAbsY _ => 0xF9
  | .plx => 0xFA
  | .xce => 0xFB
  | .jsrAbsXInd _ => 0xFC
  | .sbcAbsX _ => 0xFD
  | .incAbsX _ => 0xFE
  | .sbcAbsLongX _ => 0xFF

/-- The bytes of an immediate, least significant first (R101, R102). -/
def immBytes : Imm → List Byte
  | .b8 v => [v]
  | .w16 v => [loByte v, hiByte v]

/-- The bytes of a 16-bit operand, least significant first (R101, R102). -/
def wordBytes (w : Word) : List Byte := [loByte w, hiByte w]

/-- The bytes of a 24-bit operand: offset low, offset high, bank (R101, R102). -/
def longBytes (l : Long) : List Byte := [loByte (offOf l), hiByte (offOf l), bankOf l]

/-- The operand bytes of an instruction in memory order (R101, R107). -/
def operandBytes : Instr → List Byte
  | .php | .aslAcc | .phd | .clc | .incAcc | .tcs | .plp | .rolAcc | .pld | .sec | .decAcc | .tsc | .rti
  | .pha | .lsrAcc | .phk | .cli | .phy | .tcd | .rts | .pla | .rorAcc | .rtl | .sei | .ply | .tdc | .dey
  | .txa | .phb | .tya | .txs | .txy | .tay | .tax | .plb | .clv | .tsx | .tyx | .iny | .dex | .wai | .cld
  | .phx | .stp | .inx | .nop | .xba | .sed | .plx | .xce => []
  | .brk b | .oraDirXInd b | .cop b | .oraStk b | .tsbDir b | .oraDir b | .aslDir b | .oraDirIndLong b
  | .bpl b | .oraDirIndY b | .oraDirInd b | .oraStkIndY b | .trbDir b | .oraDirX b | .aslDirX b
  | .oraDirIndLongY b | .andDirXInd b | .andStk b | .bitDir b | .andDir b | .rolDir b | .andDirIndLong b
  | .bmi b | .andDirIndY b | .andDirInd b | .andStkIndY b | .bitDirX b | .andDirX b | .rolDirX b
  | .andDirIndLongY b | .eorDirXInd b | .wdm b | .eorStk b | .eorDir b | .lsrDir b | .eorDirIndLong b
  | .bvc b | .eorDirIndY b | .eorDirInd b | .eorStkIndY b | .eorDirX b | .lsrDirX b | .eorDirIndLongY b
  | .adcDirXInd b | .adcStk b | .stzDir b | .adcDir b | .rorDir b | .adcDirIndLong b | .bvs b | .adcDirIndY b
  | .adcDirInd b | .adcStkIndY b | .stzDirX b | .adcDirX b | .rorDirX b | .adcDirIndLongY b | .bra b
  | .staDirXInd b | .staStk b | .styDir b | .staDir b | .stxDir b | .staDirIndLong b | .bcc b | .staDirIndY b
  | .staDirInd b | .staStkIndY b | .styDirX b | .staDirX b | .stxDirY b | .staDirIndLongY b | .ldaDirXInd b
  | .ldaStk b | .ldyDir b | .ldaDir b | .ldxDir b | .ldaDirIndLong b | .bcs b | .ldaDirIndY b | .ldaDirInd b
  | .ldaStkIndY b | .ldyDirX b | .ldaDirX b | .ldxDirY b | .ldaDirIndLongY b | .cmpDirXInd b | .rep b
  | .cmpStk b | .cpyDir b | .cmpDir b | .decDir b | .cmpDirIndLong b | .bne b | .cmpDirIndY b | .cmpDirInd b
  | .cmpStkIndY b | .pei b | .cmpDirX b | .decDirX b | .cmpDirIndLongY b | .sbcDirXInd b | .sep b | .sbcStk b
  | .cpxDir b | .sbcDir b | .incDir b | .sbcDirIndLong b | .beq b | .sbcDirIndY b | .sbcDirInd b
  | .sbcStkIndY b | .sbcDirX b | .incDirX b | .sbcDirIndLongY b => [b]
  | .tsbAbs w | .oraAbs w | .aslAbs w | .oraAbsY w | .trbAbs w | .oraAbsX w | .aslAbsX w | .jsrAbs w
  | .bitAbs w | .andAbs w | .rolAbs w | .andAbsY w | .bitAbsX w | .andAbsX w | .rolAbsX w | .mvp w
  | .jmpAbs w | .eorAbs w | .lsrAbs w | .mvn w | .eorAbsY w | .eorAbsX w | .lsrAbsX w | .per w | .jmpAbsInd w
  | .adcAbs w | .rorAbs w | .adcAbsY w | .jmpAbsXInd w | .adcAbsX w | .rorAbsX w | .brl w | .styAbs w
  | .staAbs w | .stxAbs w | .staAbsY w | .stzAbs w | .staAbsX w | .stzAbsX w | .ldyAbs w | .ldaAbs w
  | .ldxAbs w | .ldaAbsY w | .ldyAbsX w | .ldaAbsX w | .ldxAbsY w | .cpyAbs w | .cmpAbs w | .decAbs w
  | .cmpAbsY w | .jmpAbsIndLong w | .cmpAbsX w | .decAbsX w | .cpxAbs w | .sbcAbs w | .incAbs w | .pea w
  | .sbcAbsY w | .jsrAbsXInd w | .sbcAbsX w | .incAbsX w => wordBytes w
  | .oraAbsLong l | .oraAbsLongX l | .jslAbsLong l | .andAbsLong l | .andAbsLongX l | .eorAbsLong l
  | .jmpAbsLong l | .eorAbsLongX l | .adcAbsLong l | .adcAbsLongX l | .staAbsLong l | .staAbsLongX l
  | .ldaAbsLong l | .ldaAbsLongX l | .cmpAbsLong l | .cmpAbsLongX l | .sbcAbsLong l | .sbcAbsLongX l => longBytes l
  | .oraImm imm | .andImm imm | .eorImm imm | .adcImm imm | .bitImm imm | .ldyImm imm | .ldxImm imm
  | .ldaImm imm | .cpyImm imm | .cmpImm imm | .cpxImm imm | .sbcImm imm => immBytes imm

/-- An instruction from the head of a byte list, with the rest of the list; rejected by name when the list is too
short (R100, R112). -/
def decode (m x : Bool) : List Byte → Except DecodeError (Instr × List Byte)
  | [] => .error .empty
  | b0 :: rest =>
    let i := decodeWindow m x b0 (rest.getD 0 0) (rest.getD 1 0) (rest.getD 2 0)
    if rest.length < (operandBytes i).length then .error (.truncated b0)
    else .ok (i, rest.drop (operandBytes i).length)

/-- The bytes of an instruction in ascending addresses (R100, R101). -/
def encode (i : Instr) : List Byte := opcodeByte i :: operandBytes i

/-- Byte `k` of an instruction whose first `nbits` bits are `w`, bit 0 the least significant bit of the first byte;
the bits above `nbits` are 0 (spec/98_reader.md). -/
def tableByte (nbits w k : Nat) : Byte := BitVec.ofNat 8 (w % 2 ^ nbits / 2 ^ (8 * k))

/-- The instruction the decoder reads from a row's word of `nbits` bits, with the width flags as reset leaves them
(`P.M = P.X = 1`, spec/10_state.md R45), the 8-bit case for which the table gives its lengths (R103; log 16). -/
def decodeTableWord (nbits w : Nat) : Option Instr :=
  match decode true true [tableByte nbits w 0, tableByte nbits w 1, tableByte nbits w 2, tableByte nbits w 3] with
  | .ok (i, _) => some i
  | .error _ => none

end Sys2Proof
end

