-- ==== Sys2Proof/Config.lean ====
section
/-!
DEFINITION. Config.lean: the parameters of spec/00_scope.md R7, which the model takes as arguments and every state
carries, with the spec's defaults (log 18), the two vector sets (spec/60_exceptions.md R276) and the 256-entry opcode
table (spec/30_encoding.md R104, R105, R107). No step writes any of it (spec/10_state.md R43).
-/

namespace Sys2Proof.Config

/-- The five vector addresses of a set beside RESET (spec/60_exceptions.md R276). No rule reads them. -/
structure InterruptVectors where
  irq : Long
  nmi : Long
  abort : Long
  brk : Long
  cop : Long
  deriving DecidableEq, Repr

/-- Six 24-bit vector addresses; one set per mode (spec/10_state.md R43). -/
structure Vectors extends InterruptVectors where
  reset : Long
  deriving DecidableEq, Repr

/-- The parameters of R7 that are no part of the platform's memory. (`DEVICES` and `RAM_INIT` are the device list of the
state and its stores.) A claim holds for every value of them, or names the value it needs. -/
structure Params where
  /-- `VEC_E_RESET`. -/
  vecEReset : Long
  /-- `VEC_N_RESET`; `none` is the table's own default, no value. -/
  vecNReset : Option Long
  /-- `VEC_E_IRQ` and the other four of the emulation set. -/
  vecE : InterruptVectors
  /-- `VEC_N_IRQ` and the other four of the native set. -/
  vecN : InterruptVectors
  /-- `UNCLAIMED_READ`: what a read no device claims returns (spec/20_memory.md R64). -/
  unclaimedRead : Byte
  /-- `IMPLEMENTED`: the opcode bytes whose handler is present (spec/30_encoding.md R106). -/
  implemented : List Byte
  /-- `ADC_CARRY_CORNER`: the carry-out of ADC when the operand is all ones and the carry-in is 1
  (spec/42_arithmetic.md R190 (b)). -/
  adcCarryCorner : Bool
  deriving DecidableEq, Repr

/-- Whether the handler of an opcode is present (R106). -/
def Params.implements (p : Params) (op : Byte) : Bool := p.implemented.contains op

/-- What stands for `VEC_N_RESET` where it has no value: a free value, read only by a release in native mode, which no
run reaches (spec/70_reset_and_hazards.md R304; log 19). -/
opaque freeVecNReset : Long

/-- The set "selected by current mode", `e` being `EP.E` (R43, R280). -/
def Params.vectors (p : Params) (e : Bool) : Vectors :=
  if e then { p.vecE with reset := p.vecEReset } else { p.vecN with reset := p.vecNReset.getD freeVecNReset }

/-- The admitted set, whose handlers the spec defines: the default of `IMPLEMENTED` (spec/30_encoding.md R106, D10). -/
def implemented : List Byte :=
  [0x18, 0x38, 0x4C, 0x5C, 0x69, 0x88, 0x8D, 0xA0, 0xA2, 0xA9, 0xAA, 0xC2, 0xC8, 0xCA, 0xCB, 0xDB, 0xE2, 0xE8, 0xEA, 0xFB]

/-- The parameters at the spec's defaults (R7, R276; D4, D10, D13, D21). -/
def params : Params where
  vecEReset := 0x00FFFC
  vecNReset := none
  vecE := ⟨0x00FFFE, 0x00FFFA, 0x00FFF8, 0x00FFFE, 0x00FFF4⟩
  vecN := ⟨0x00FFEE, 0x00FFEA, 0x00FFE8, 0x00FFE6, 0x00FFE4⟩
  unclaimedRead := 0xC8
  implemented := implemented
  adcCarryCorner := true

/-- What the model does with an opcode that has no handler: refuse it (spec/93_implementation_defined.md U1) or
stagnate as the block is built (spec/46_system.md R254). -/
inductive PlaceholderTreatment where
  /-- The model gives the fetch no meaning (R108, U1). -/
  | refuse
  /-- One diagnostic per clock, nothing else changes (R254). -/
  | stagnate
  deriving DecidableEq, Repr

/-- The addressing modes of the opcode map (R107). -/
inductive AddrMode where
  /-- `i` -/
  | implied
  /-- `A` -/
  | accumulator
  /-- `#8` -/
  | imm8
  /-- `#m` -/
  | immM
  /-- `#x` -/
  | immX
  /-- `a` -/
  | abs
  /-- `a,x` -/
  | absX
  /-- `a,y` -/
  | absY
  /-- `al` -/
  | absLong
  /-- `al,x` -/
  | absLongX
  /-- `(a)` -/
  | absInd
  /-- `(a,x)` -/
  | absXInd
  /-- `[a]` -/
  | absIndLong
  /-- `d` -/
  | dir
  /-- `d,x` -/
  | dirX
  /-- `d,y` -/
  | dirY
  /-- `(d)` -/
  | dirInd
  /-- `(d,x)` -/
  | dirXInd
  /-- `(d),y` -/
  | dirIndY
  /-- `[d]` -/
  | dirIndLong
  /-- `[d],y` -/
  | dirIndLongY
  /-- `d,s` -/
  | stk
  /-- `(d,s),y` -/
  | stkIndY
  /-- `r` -/
  | rel
  /-- `rl` -/
  | relLong
  /-- `s` -/
  | stack
  /-- `xyc` -/
  | blockMove
  deriving DecidableEq, Repr

/-- One entry of the opcode table: descriptive data, and whether the entry has a handler (R104). -/
structure OpcodeRow where
  opcode : Byte
  mnemonic : String
  mode : AddrMode
  /-- Length for the 8-bit case (R103). -/
  bytes : Nat
  /-- Base cycle count, for the 8-bit case (R315). -/
  baseCycles : Nat
  /-- A handler is present at the default of `IMPLEMENTED` (R106). -/
  handler : Bool
  deriving DecidableEq, Repr

/-- Row `0x` of the map (R105, R106). -/
def opcodeRow0 : List OpcodeRow := [
  ⟨0x00, "BRK", .stack, 2, 7, false⟩,
  ⟨0x01, "ORA", .dirXInd, 2, 6, false⟩,
  ⟨0x02, "COP", .stack, 2, 7, false⟩,
  ⟨0x03, "ORA", .stk, 2, 4, false⟩,
  ⟨0x04, "TSB", .dir, 2, 5, false⟩,
  ⟨0x05, "ORA", .dir, 2, 3, false⟩,
  ⟨0x06, "ASL", .dir, 2, 5, false⟩,
  ⟨0x07, "ORA", .dirIndLong, 2, 6, false⟩,
  ⟨0x08, "PHP", .stack, 1, 3, false⟩,
  ⟨0x09, "ORA", .immM, 2, 2, false⟩,
  ⟨0x0A, "ASL", .accumulator, 1, 2, false⟩,
  ⟨0x0B, "PHD", .stack, 1, 4, false⟩,
  ⟨0x0C, "TSB", .abs, 3, 6, false⟩,
  ⟨0x0D, "ORA", .abs, 3, 4, false⟩,
  ⟨0x0E, "ASL", .abs, 3, 6, false⟩,
  ⟨0x0F, "ORA", .absLong, 4, 5, false⟩]

/-- Row `1x` of the map (R105, R106). -/
def opcodeRow1 : List OpcodeRow := [
  ⟨0x10, "BPL", .rel, 2, 2, false⟩,
  ⟨0x11, "ORA", .dirIndY, 2, 5, false⟩,
  ⟨0x12, "ORA", .dirInd, 2, 5, false⟩,
  ⟨0x13, "ORA", .stkIndY, 2, 7, false⟩,
  ⟨0x14, "TRB", .dir, 2, 5, false⟩,
  ⟨0x15, "ORA", .dirX, 2, 4, false⟩,
  ⟨0x16, "ASL", .dirX, 2, 6, false⟩,
  ⟨0x17, "ORA", .dirIndLongY, 2, 6, false⟩,
  ⟨0x18, "CLC", .implied, 1, 2, true⟩,
  ⟨0x19, "ORA", .absY, 3, 4, false⟩,
  ⟨0x1A, "INC", .accumulator, 1, 2, false⟩,
  ⟨0x1B, "TCS", .implied, 1, 2, false⟩,
  ⟨0x1C, "TRB", .abs, 3, 6, false⟩,
  ⟨0x1D, "ORA", .absX, 3, 4, false⟩,
  ⟨0x1E, "ASL", .absX, 3, 7, false⟩,
  ⟨0x1F, "ORA", .absLongX, 4, 5, false⟩]

/-- Row `2x` of the map (R105, R106). -/
def opcodeRow2 : List OpcodeRow := [
  ⟨0x20, "JSR", .abs, 3, 6, false⟩,
  ⟨0x21, "AND", .dirXInd, 2, 6, false⟩,
  ⟨0x22, "JSL", .absLong, 4, 8, false⟩,
  ⟨0x23, "AND", .stk, 2, 4, false⟩,
  ⟨0x24, "BIT", .dir, 2, 3, false⟩,
  ⟨0x25, "AND", .dir, 2, 3, false⟩,
  ⟨0x26, "ROL", .dir, 2, 5, false⟩,
  ⟨0x27, "AND", .dirIndLong, 2, 6, false⟩,
  ⟨0x28, "PLP", .stack, 1, 4, false⟩,
  ⟨0x29, "AND", .immM, 2, 2, false⟩,
  ⟨0x2A, "ROL", .accumulator, 1, 2, false⟩,
  ⟨0x2B, "PLD", .stack, 1, 5, false⟩,
  ⟨0x2C, "BIT", .abs, 3, 4, false⟩,
  ⟨0x2D, "AND", .abs, 3, 4, false⟩,
  ⟨0x2E, "ROL", .abs, 3, 6, false⟩,
  ⟨0x2F, "AND", .absLong, 4, 5, false⟩]

/-- Row `3x` of the map (R105, R106). -/
def opcodeRow3 : List OpcodeRow := [
  ⟨0x30, "BMI", .rel, 2, 2, false⟩,
  ⟨0x31, "AND", .dirIndY, 2, 5, false⟩,
  ⟨0x32, "AND", .dirInd, 2, 5, false⟩,
  ⟨0x33, "AND", .stkIndY, 2, 7, false⟩,
  ⟨0x34, "BIT", .dirX, 2, 4, false⟩,
  ⟨0x35, "AND", .dirX, 2, 4, false⟩,
  ⟨0x36, "ROL", .dirX, 2, 6, false⟩,
  ⟨0x37, "AND", .dirIndLongY, 2, 6, false⟩,
  ⟨0x38, "SEC", .implied, 1, 2, true⟩,
  ⟨0x39, "AND", .absY, 3, 4, false⟩,
  ⟨0x3A, "DEC", .accumulator, 1, 2, false⟩,
  ⟨0x3B, "TSC", .implied, 1, 2, false⟩,
  ⟨0x3C, "BIT", .absX, 3, 4, false⟩,
  ⟨0x3D, "AND", .absX, 3, 4, false⟩,
  ⟨0x3E, "ROL", .absX, 3, 7, false⟩,
  ⟨0x3F, "AND", .absLongX, 4, 5, false⟩]

/-- Row `4x` of the map (R105, R106). -/
def opcodeRow4 : List OpcodeRow := [
  ⟨0x40, "RTI", .stack, 1, 6, false⟩,
  ⟨0x41, "EOR", .dirXInd, 2, 6, false⟩,
  ⟨0x42, "WDM", .implied, 2, 2, false⟩,
  ⟨0x43, "EOR", .stk, 2, 4, false⟩,
  ⟨0x44, "MVP", .blockMove, 3, 7, false⟩,
  ⟨0x45, "EOR", .dir, 2, 3, false⟩,
  ⟨0x46, "LSR", .dir, 2, 5, false⟩,
  ⟨0x47, "EOR", .dirIndLong, 2, 6, false⟩,
  ⟨0x48, "PHA", .stack, 1, 3, false⟩,
  ⟨0x49, "EOR", .immM, 2, 2, false⟩,
  ⟨0x4A, "LSR", .accumulator, 1, 2, false⟩,
  ⟨0x4B, "PHK", .stack, 1, 3, false⟩,
  ⟨0x4C, "JMP", .abs, 3, 3, true⟩,
  ⟨0x4D, "EOR", .abs, 3, 4, false⟩,
  ⟨0x4E, "LSR", .abs, 3, 6, false⟩,
  ⟨0x4F, "EOR", .absLong, 4, 5, false⟩]

/-- Row `5x` of the map (R105, R106). -/
def opcodeRow5 : List OpcodeRow := [
  ⟨0x50, "BVC", .rel, 2, 2, false⟩,
  ⟨0x51, "EOR", .dirIndY, 2, 5, false⟩,
  ⟨0x52, "EOR", .dirInd, 2, 5, false⟩,
  ⟨0x53, "EOR", .stkIndY, 2, 7, false⟩,
  ⟨0x54, "MVN", .blockMove, 3, 7, false⟩,
  ⟨0x55, "EOR", .dirX, 2, 4, false⟩,
  ⟨0x56, "LSR", .dirX, 2, 6, false⟩,
  ⟨0x57, "EOR", .dirIndLongY, 2, 6, false⟩,
  ⟨0x58, "CLI", .implied, 1, 2, false⟩,
  ⟨0x59, "EOR", .absY, 3, 4, false⟩,
  ⟨0x5A, "PHY", .stack, 1, 3, false⟩,
  ⟨0x5B, "TCD", .implied, 1, 2, false⟩,
  ⟨0x5C, "JMP", .absLong, 4, 4, true⟩,
  ⟨0x5D, "EOR", .absX, 3, 4, false⟩,
  ⟨0x5E, "LSR", .absX, 3, 7, false⟩,
  ⟨0x5F, "EOR", .absLongX, 4, 5, false⟩]

/-- Row `6x` of the map (R105, R106). -/
def opcodeRow6 : List OpcodeRow := [
  ⟨0x60, "RTS", .stack, 1, 6, false⟩,
  ⟨0x61, "ADC", .dirXInd, 2, 6, false⟩,
  ⟨0x62, "PER", .stack, 3, 6, false⟩,
  ⟨0x63, "ADC", .stk, 2, 4, false⟩,
  ⟨0x64, "STZ", .dir, 2, 3, false⟩,
  ⟨0x65, "ADC", .dir, 2, 3, false⟩,
  ⟨0x66, "ROR", .dir, 2, 5, false⟩,
  ⟨0x67, "ADC", .dirIndLong, 2, 6, false⟩,
  ⟨0x68, "PLA", .stack, 1, 4, false⟩,
  ⟨0x69, "ADC", .immM, 2, 2, true⟩,
  ⟨0x6A, "ROR", .accumulator, 1, 2, false⟩,
  ⟨0x6B, "RTL", .stack, 1, 6, false⟩,
  ⟨0x6C, "JMP", .absInd, 3, 5, false⟩,
  ⟨0x6D, "ADC", .abs, 3, 4, false⟩,
  ⟨0x6E, "ROR", .abs, 3, 6, false⟩,
  ⟨0x6F, "ADC", .absLong, 4, 5, false⟩]

/-- Row `7x` of the map (R105, R106). -/
def opcodeRow7 : List OpcodeRow := [
  ⟨0x70, "BVS", .rel, 2, 2, false⟩,
  ⟨0x71, "ADC", .dirIndY, 2, 5, false⟩,
  ⟨0x72, "ADC", .dirInd, 2, 5, false⟩,
  ⟨0x73, "ADC", .stkIndY, 2, 7, false⟩,
  ⟨0x74, "STZ", .dirX, 2, 4, false⟩,
  ⟨0x75, "ADC", .dirX, 2, 4, false⟩,
  ⟨0x76, "ROR", .dirX, 2, 6, false⟩,
  ⟨0x77, "ADC", .dirIndLongY, 2, 6, false⟩,
  ⟨0x78, "SEI", .implied, 1, 2, false⟩,
  ⟨0x79, "ADC", .absY, 3, 4, false⟩,
  ⟨0x7A, "PLY", .stack, 1, 4, false⟩,
  ⟨0x7B, "TDC", .implied, 1, 2, false⟩,
  ⟨0x7C, "JMP", .absXInd, 3, 6, false⟩,
  ⟨0x7D, "ADC", .absX, 3, 4, false⟩,
  ⟨0x7E, "ROR", .absX, 3, 7, false⟩,
  ⟨0x7F, "ADC", .absLongX, 4, 5, false⟩]

/-- Row `8x` of the map (R105, R106). -/
def opcodeRow8 : List OpcodeRow := [
  ⟨0x80, "BRA", .rel, 2, 3, false⟩,
  ⟨0x81, "STA", .dirXInd, 2, 6, false⟩,
  ⟨0x82, "BRL", .relLong, 3, 4, false⟩,
  ⟨0x83, "STA", .stk, 2, 4, false⟩,
  ⟨0x84, "STY", .dir, 2, 3, false⟩,
  ⟨0x85, "STA", .dir, 2, 3, false⟩,
  ⟨0x86, "STX", .dir, 2, 3, false⟩,
  ⟨0x87, "STA", .dirIndLong, 2, 6, false⟩,
  ⟨0x88, "DEY", .implied, 1, 2, true⟩,
  ⟨0x89, "BIT", .immM, 2, 2, false⟩,
  ⟨0x8A, "TXA", .implied, 1, 2, false⟩,
  ⟨0x8B, "PHB", .stack, 1, 3, false⟩,
  ⟨0x8C, "STY", .abs, 3, 4, false⟩,
  ⟨0x8D, "STA", .abs, 3, 4, true⟩,
  ⟨0x8E, "STX", .abs, 3, 4, false⟩,
  ⟨0x8F, "STA", .absLong, 4, 5, false⟩]

/-- Row `9x` of the map (R105, R106). -/
def opcodeRow9 : List OpcodeRow := [
  ⟨0x90, "BCC", .rel, 2, 2, false⟩,
  ⟨0x91, "STA", .dirIndY, 2, 6, false⟩,
  ⟨0x92, "STA", .dirInd, 2, 5, false⟩,
  ⟨0x93, "STA", .stkIndY, 2, 7, false⟩,
  ⟨0x94, "STY", .dirX, 2, 4, false⟩,
  ⟨0x95, "STA", .dirX, 2, 4, false⟩,
  ⟨0x96, "STX", .dirY, 2, 4, false⟩,
  ⟨0x97, "STA", .dirIndLongY, 2, 6, false⟩,
  ⟨0x98, "TYA", .implied, 1, 2, false⟩,
  ⟨0x99, "STA", .absY, 3, 5, false⟩,
  ⟨0x9A, "TXS", .implied, 1, 2, false⟩,
  ⟨0x9B, "TXY", .implied, 1, 2, false⟩,
  ⟨0x9C, "STZ", .abs, 3, 4, false⟩,
  ⟨0x9D, "STA", .absX, 3, 5, false⟩,
  ⟨0x9E, "STZ", .absX, 3, 5, false⟩,
  ⟨0x9F, "STA", .absLongX, 4, 5, false⟩]

/-- Row `Ax` of the map (R105, R106). -/
def opcodeRowA : List OpcodeRow := [
  ⟨0xA0, "LDY", .immX, 2, 2, true⟩,
  ⟨0xA1, "LDA", .dirXInd, 2, 6, false⟩,
  ⟨0xA2, "LDX", .immX, 2, 2, true⟩,
  ⟨0xA3, "LDA", .stk, 2, 4, false⟩,
  ⟨0xA4, "LDY", .dir, 2, 3, false⟩,
  ⟨0xA5, "LDA", .dir, 2, 3, false⟩,
  ⟨0xA6, "LDX", .dir, 2, 3, false⟩,
  ⟨0xA7, "LDA", .dirIndLong, 2, 6, false⟩,
  ⟨0xA8, "TAY", .implied, 1, 2, false⟩,
  ⟨0xA9, "LDA", .immM, 2, 2, true⟩,
  ⟨0xAA, "TAX", .implied, 1, 2, true⟩,
  ⟨0xAB, "PLB", .stack, 1, 4, false⟩,
  ⟨0xAC, "LDY", .abs, 3, 4, false⟩,
  ⟨0xAD, "LDA", .abs, 3, 4, false⟩,
  ⟨0xAE, "LDX", .abs, 3, 4, false⟩,
  ⟨0xAF, "LDA", .absLong, 4, 5, false⟩]

/-- Row `Bx` of the map (R105, R106). -/
def opcodeRowB : List OpcodeRow := [
  ⟨0xB0, "BCS", .rel, 2, 2, false⟩,
  ⟨0xB1, "LDA", .dirIndY, 2, 5, false⟩,
  ⟨0xB2, "LDA", .dirInd, 2, 5, false⟩,
  ⟨0xB3, "LDA", .stkIndY, 2, 7, false⟩,
  ⟨0xB4, "LDY", .dirX, 2, 4, false⟩,
  ⟨0xB5, "LDA", .dirX, 2, 4, false⟩,
  ⟨0xB6, "LDX", .dirY, 2, 4, false⟩,
  ⟨0xB7, "LDA", .dirIndLongY, 2, 6, false⟩,
  ⟨0xB8, "CLV", .implied, 1, 2, false⟩,
  ⟨0xB9, "LDA", .absY, 3, 4, false⟩,
  ⟨0xBA, "TSX", .implied, 1, 2, false⟩,
  ⟨0xBB, "TYX", .implied, 1, 2, false⟩,
  ⟨0xBC, "LDY", .absX, 3, 4, false⟩,
  ⟨0xBD, "LDA", .absX, 3, 4, false⟩,
  ⟨0xBE, "LDX", .absY, 3, 4, false⟩,
  ⟨0xBF, "LDA", .absLongX, 4, 5, false⟩]

/-- Row `Cx` of the map (R105, R106). -/
def opcodeRowC : List OpcodeRow := [
  ⟨0xC0, "CPY", .immX, 2, 2, false⟩,
  ⟨0xC1, "CMP", .dirXInd, 2, 6, false⟩,
  ⟨0xC2, "REP", .imm8, 2, 3, true⟩,
  ⟨0xC3, "CMP", .stk, 2, 4, false⟩,
  ⟨0xC4, "CPY", .dir, 2, 3, false⟩,
  ⟨0xC5, "CMP", .dir, 2, 3, false⟩,
  ⟨0xC6, "DEC", .dir, 2, 5, false⟩,
  ⟨0xC7, "CMP", .dirIndLong, 2, 6, false⟩,
  ⟨0xC8, "INY", .implied, 1, 2, true⟩,
  ⟨0xC9, "CMP", .immM, 2, 2, false⟩,
  ⟨0xCA, "DEX", .implied, 1, 2, true⟩,
  ⟨0xCB, "WAI", .implied, 1, 3, true⟩,
  ⟨0xCC, "CPY", .abs, 3, 4, false⟩,
  ⟨0xCD, "CMP", .abs, 3, 4, false⟩,
  ⟨0xCE, "DEC", .abs, 3, 6, false⟩,
  ⟨0xCF, "CMP", .absLong, 4, 5, false⟩]

/-- Row `Dx` of the map (R105, R106). -/
def opcodeRowD : List OpcodeRow := [
  ⟨0xD0, "BNE", .rel, 2, 2, false⟩,
  ⟨0xD1, "CMP", .dirIndY, 2, 5, false⟩,
  ⟨0xD2, "CMP", .dirInd, 2, 5, false⟩,
  ⟨0xD3, "CMP", .stkIndY, 2, 7, false⟩,
  ⟨0xD4, "PEI", .stack, 2, 6, false⟩,
  ⟨0xD5, "CMP", .dirX, 2, 4, false⟩,
  ⟨0xD6, "DEC", .dirX, 2, 6, false⟩,
  ⟨0xD7, "CMP", .dirIndLongY, 2, 6, false⟩,
  ⟨0xD8, "CLD", .implied, 1, 2, false⟩,
  ⟨0xD9, "CMP", .absY, 3, 4, false⟩,
  ⟨0xDA, "PHX", .stack, 1, 3, false⟩,
  ⟨0xDB, "STP", .implied, 1, 3, true⟩,
  ⟨0xDC, "JMP", .absIndLong, 3, 6, false⟩,
  ⟨0xDD, "CMP", .absX, 3, 4, false⟩,
  ⟨0xDE, "DEC", .absX, 3, 7, false⟩,
  ⟨0xDF, "CMP", .absLongX, 4, 5, false⟩]

/-- Row `Ex` of the map (R105, R106). -/
def opcodeRowE : List OpcodeRow := [
  ⟨0xE0, "CPX", .immX, 2, 2, false⟩,
  ⟨0xE1, "SBC", .dirXInd, 2, 6, false⟩,
  ⟨0xE2, "SEP", .imm8, 2, 3, true⟩,
  ⟨0xE3, "SBC", .stk, 2, 4, false⟩,
  ⟨0xE4, "CPX", .dir, 2, 3, false⟩,
  ⟨0xE5, "SBC", .dir, 2, 3, false⟩,
  ⟨0xE6, "INC", .dir, 2, 5, false⟩,
  ⟨0xE7, "SBC", .dirIndLong, 2, 6, false⟩,
  ⟨0xE8, "INX", .implied, 1, 2, true⟩,
  ⟨0xE9, "SBC", .immM, 2, 2, false⟩,
  ⟨0xEA, "NOP", .implied, 1, 2, true⟩,
  ⟨0xEB, "XBA", .implied, 1, 3, false⟩,
  ⟨0xEC, "CPX", .abs, 3, 4, false⟩,
  ⟨0xED, "SBC", .abs, 3, 4, false⟩,
  ⟨0xEE, "INC", .abs, 3, 6, false⟩,
  ⟨0xEF, "SBC", .absLong, 4, 5, false⟩]

/-- Row `Fx` of the map (R105, R106). -/
def opcodeRowF : List OpcodeRow := [
  ⟨0xF0, "BEQ", .rel, 2, 2, false⟩,
  ⟨0xF1, "SBC", .dirIndY, 2, 5, false⟩,
  ⟨0xF2, "SBC", .dirInd, 2, 5, false⟩,
  ⟨0xF3, "SBC", .stkIndY, 2, 7, false⟩,
  ⟨0xF4, "PEA", .stack, 3, 5, false⟩,
  ⟨0xF5, "SBC", .dirX, 2, 4, false⟩,
  ⟨0xF6, "INC", .dirX, 2, 6, false⟩,
  ⟨0xF7, "SBC", .dirIndLongY, 2, 6, false⟩,
  ⟨0xF8, "SED", .implied, 1, 2, false⟩,
  ⟨0xF9, "SBC", .absY, 3, 4, false⟩,
  ⟨0xFA, "PLX", .stack, 1, 4, false⟩,
  ⟨0xFB, "XCE", .implied, 1, 2, true⟩,
  ⟨0xFC, "JSR", .absXInd, 3, 8, false⟩,
  ⟨0xFD, "SBC", .absX, 3, 4, false⟩,
  ⟨0xFE, "INC", .absX, 3, 7, false⟩,
  ⟨0xFF, "SBC", .absLongX, 4, 5, false⟩]

/-- The 256 entries in opcode order (R104, R105). -/
def opcodeTable : List OpcodeRow :=
  opcodeRow0 ++ opcodeRow1 ++ opcodeRow2 ++ opcodeRow3 ++ opcodeRow4 ++ opcodeRow5 ++ opcodeRow6 ++ opcodeRow7 ++
  opcodeRow8 ++ opcodeRow9 ++ opcodeRowA ++ opcodeRowB ++ opcodeRowC ++ opcodeRowD ++ opcodeRowE ++ opcodeRowF

end Sys2Proof.Config
end

