-- ==== Sys2Proof/Machine/Memory.lean ====
section
/-!
DEFINITION. Machine/Memory.lean: the backing store of a device and the bus over the ordered device list
(spec/20_memory.md R60 to R67). A store is a list of (address, byte) cells in one canonical form: addresses strictly
rising, no cell equal to what an unlisted address reads as. Cells carry the 24-bit bus address; the spec indexes a store
by `a - start`, which names the same cells (log 20).
-/

namespace Sys2Proof.Machine

/-- The listed cells of a store. -/
abbrev Memory := List Host.Cell

/-- What an unlisted address of a store reads as (DESIGN CHOICE, log 5): the base over which a list of cells writes
down any content. R66 gives RAM no initial content, so a claim about RAM content holds for every list of cells. -/
def Memory.unlisted : Byte := 0x00

/-- The byte of a store at an address. -/
def Memory.read : Memory → Nat → Byte
  | [], _ => Memory.unlisted
  | (k, v) :: m, a => if k = a then v else Memory.read m a

/-- A store with one byte written; it keeps the canonical form, so a byte equal to the unlisted one is not listed. -/
def Memory.write : Memory → Nat → Byte → Memory
  | [], a, b => if b = Memory.unlisted then [] else [(a, b)]
  | (k, v) :: m, a, b =>
    if a < k then (if b = Memory.unlisted then (k, v) :: m else (a, b) :: (k, v) :: m)
    else if a = k then (if b = Memory.unlisted then m else (a, b) :: m)
    else (k, v) :: Memory.write m a b

/-- The canonical form, all addresses from `lo` to `hi`. -/
def Memory.wfIn (lo hi : Nat) : Memory → Bool
  | [] => true
  | (k, v) :: m => decide (lo ≤ k) && decide (k ≤ hi) && (v != Memory.unlisted) && Memory.wfIn (k + 1) hi m

/-- The canonical form over the whole 24-bit space (R60). -/
def Memory.wf (m : Memory) : Bool := Memory.wfIn 0 0xFFFFFF m

/-- The two kinds of bus device (R63). -/
inductive DeviceKind where
  | ram
  | rom
  deriving DecidableEq, Repr

/-- A bus device: an inclusive range and a backing store (R63). -/
structure Device where
  kind : DeviceKind
  start : Long
  stop : Long
  store : Memory
  deriving DecidableEq, Repr

/-- `ValidRead(a) = (start <= a <= end)` for both kinds (R63). -/
def Device.validRead (d : Device) (a : Long) : Bool := decide (d.start ≤ a) && decide (a ≤ d.stop)

/-- `ValidWrite(a)`: the range for a RAM, false always for a ROM (R63, R67). -/
def Device.validWrite (d : Device) (a : Long) : Bool :=
  match d.kind with
  | .ram => d.validRead a
  | .rom => false

/-- The byte of the device at an address (R63). -/
def Device.readByte (d : Device) (a : Long) : Byte := Memory.read d.store a.toNat

/-- The device with one byte of its store replaced (R63). -/
def Device.putByte (d : Device) (a : Long) (b : Byte) : Device :=
  { d with store := Memory.write d.store a.toNat b }

/-- The range is not reversed and the store is canonical inside it. -/
def Device.wf (d : Device) : Bool :=
  decide (d.start ≤ d.stop) && Memory.wfIn d.start.toNat d.stop.toNat d.store

/-- The events of the diagnostic channel (spec/60_exceptions.md R271). -/
inductive Diag where
  /-- `DiagUnimplementedOpcode(ir, pc)`. -/
  | unimplementedOpcode (ir : Byte) (pc : Long)
  /-- `DiagUnclaimedRead(a)`. -/
  | unclaimedRead (a : Long)
  /-- `DiagUnclaimedWrite(a)`. -/
  | unclaimedWrite (a : Long)
  deriving DecidableEq, Repr

/-- The byte of the first device that claims a read, in registration order (R62, R64); `none` when none does. -/
def claimedRead : List Device → Long → Option Byte
  | [], _ => none
  | d :: ds, a => if d.validRead a then some (d.readByte a) else claimedRead ds a

/-- `BusRead(a)` as a byte: the claimed byte, else the sentinel `UNCLAIMED_READ` (R64). -/
def busRead (sentinel : Byte) (ds : List Device) (a : Long) : Byte := (claimedRead ds a).getD sentinel

/-- The event of `BusRead(a)`: one when no device claims the address (R64, R271). -/
def readDiag (ds : List Device) (a : Long) : List Diag :=
  if (claimedRead ds a).isSome then [] else [.unclaimedRead a]

/-- `BusWrite(a, b)`: the first device that claims a write takes the byte (R65); `none` when none does. -/
def claimedWrite : List Device → Long → Byte → Option (List Device)
  | [], _, _ => none
  | d :: ds, a, b =>
    if d.validWrite a then some (d.putByte a b :: ds)
    else (claimedWrite ds a b).map (d :: ·)

/-- The devices after `BusWrite(a, b)`: unchanged where no device claims the write (R65). -/
def busWrite (ds : List Device) (a : Long) (b : Byte) : List Device := (claimedWrite ds a b).getD ds

/-- The event of `BusWrite(a, b)`: one when no device claims the write, a write into a ROM included (R65, R271). -/
def writeDiag (ds : List Device) (a : Long) (b : Byte) : List Diag :=
  if (claimedWrite ds a b).isSome then [] else [.unclaimedWrite a]

/-- The platform with a byte loaded from outside at an address, before the clock starts (R67, R307): the device that
serves reads there holds it, a ROM too; where no device does, a one-byte RAM is registered last (log 17). -/
def loadByte : List Device → Long → Byte → List Device
  | [], a, b => [Device.putByte ⟨.ram, a, a, []⟩ a b]
  | d :: ds, a, b => if d.validRead a then d.putByte a b :: ds else d :: loadByte ds a b

end Sys2Proof.Machine
end

