-- ==== Sys2Proof/Machine/State.lean ====
section
/-!
DEFINITION. Machine/State.lean: everything the spec gives the machine (spec/10_state.md), as plain data, the reasons a
step can stop, and the machine right after reset (R45).
-/

namespace Sys2Proof.Machine

/-- `P`, the status register (R27). The fields stand in the order of its bits 7 down to 0 (R28); the byte itself is
`Status.toByte`. -/
structure Status where
  n : Bool
  v : Bool
  m : Bool
  x : Bool
  d : Bool
  i : Bool
  z : Bool
  c : Bool
  deriving DecidableEq, Repr

/-- The architectural registers (R20, R24, R27, R30, R32 to R34). -/
structure Regs where
  /-- `A`. -/
  a : Word
  /-- `X`. -/
  x : Word
  /-- `Y`. -/
  y : Word
  /-- `PC`. -/
  pc : Long
  /-- `P`. -/
  p : Status
  /-- `EP.E` (R30 lets a model hold `EP` as two Booleans; log 21). -/
  epE : Bool
  /-- `EP.B`, read and written by no instruction (R30). -/
  epB : Bool
  /-- `D`. -/
  d : Long
  /-- `S`. -/
  sp : Long
  /-- `DBR`. -/
  dbr : Long
  deriving DecidableEq, Repr

/-- The hidden sequencing state (R36 to R39), with `data_in`, the byte of the last bus tick (R71). -/
structure Seq where
  /-- `IR`. -/
  ir : Byte
  /-- `ic`, held in 8 bits (R37). -/
  ic : Byte
  /-- `rlc`, saturated at 2 (R38). -/
  rlc : Nat
  /-- `TL`. -/
  tl : Byte
  /-- `TH`. -/
  th : Byte
  /-- `data_out`. -/
  dataOut : Byte
  /-- `data_in`. -/
  dataIn : Byte
  deriving DecidableEq, Repr

/-- The five control lines (spec/40_cycle_engine.md R137). -/
structure Lines where
  vpa : Bool
  vda : Bool
  vpb : Bool
  mlb : Bool
  rwb : Bool
  deriving DecidableEq, Repr

/-- The interface lines (R40) and the container that drives the address (R35). -/
structure Pins where
  /-- `address_out`. -/
  addressOut : Long
  /-- VPA, VDA, VPB, MLB, RWB. -/
  ctl : Lines
  /-- The `E` output line (R41). -/
  eLine : Bool
  /-- `MX`: never driven (R42; log 12). -/
  mx : Bool
  /-- `RESB`, driven by the host, sampled first by every `Clock()` (R131). -/
  resb : Bool
  /-- `ABORTB`, `IRQB`, `NMIB`, `BE`, `RDY`: never sampled (R42, R273). -/
  abortb : Bool
  irqb : Bool
  nmib : Bool
  be : Bool
  rdy : Bool
  /-- `PHI2`: high from `Clock()` to the bus tick (spec/20_memory.md R69). -/
  phi2 : Bool
  deriving DecidableEq, Repr

/-- The machine at a clock boundary: the core, its lines, the bus devices and the diagnostic channel, under the
parameters it was built with. -/
structure State where
  /-- The parameters of spec/00_scope.md R7, arguments of the model: configuration, which no step writes (R43; log 18). -/
  params : Config.Params
  regs : Regs
  seq : Seq
  pins : Pins
  /-- `DEVICES`, in registration order, with their stores (R62). -/
  devices : List Device
  /-- The diagnostic channel, newest event first (R270; log 11). -/
  diag : List Diag
  /-- The model's own field: the levels the host puts on RESB at the coming clock boundaries, one each; past its end
  the line keeps its level (R72; log 2). -/
  hostResb : List Bool
  deriving DecidableEq, Repr

/-- Why the machine is stuck. The hardware itself has no fault (R256, R271). -/
inductive Fault where
  /-- Raised by `clock` (and by `step` through it): `ic` is no row of the held instruction's cycle pattern. The spec
  gives such a state no micro-step and no run reaches one (R37; log 9). Safe. -/
  | noMicroStep (ir ic : Byte)
  deriving DecidableEq, Repr

/-- Why the model gives no meaning. -/
inductive Refusal where
  /-- Raised by an arm of `exec` whose instruction has no meaning yet. None is left. Safe. -/
  | notModelled (mnemonic : String)
  /-- Raised by the 236 placeholder meanings, by the other twenty where `IMPLEMENTED` leaves them out, and by `clock`
  when it dispatches on such an opcode (R108, R254, U1), with the payload of the diagnostic. Safe. -/
  | unimplementedOpcode (ir : Byte) (pc : Long)
  /-- Raised by `clock` when RESB is high again after a single low clock (R305, U2). Safe. -/
  | shortResetPulse
  /-- Raised by an immediate instruction whose operand has not the width its flag selects: a term that no byte string
  decodes to under that flag (R103; log 8). Safe. -/
  | operandWidth
  deriving DecidableEq, Repr

/-- The outcome of a step. -/
abbrev Result := Host.Outcome State Fault Refusal

/-- The bundles of control lines (R137). -/
def Lines.resetIdle : Lines := ⟨false, false, true, true, true⟩
/-- The cycle that reads an opcode byte (R137). -/
def Lines.fetchOpcode : Lines := ⟨true, true, true, true, true⟩
/-- A cycle that reads an operand byte of the instruction stream (R137). -/
def Lines.fetchOperand : Lines := ⟨true, false, true, true, true⟩
/-- A cycle in which the core uses no bus data (R137). -/
def Lines.internal : Lines := ⟨false, false, true, true, true⟩
/-- A data read; used by no instruction of `IMPLEMENTED` (R137). -/
def Lines.dataRead : Lines := ⟨false, true, true, true, true⟩
/-- A data write (R137). -/
def Lines.dataWrite : Lines := ⟨false, true, true, true, false⟩

/-- A value for everything that the reset sequence leaves unspecified (R45, R47, U5): one draw an item. -/
structure Draws where
  a : Word
  xl : Byte
  yl : Byte
  n : Bool
  v : Bool
  z : Bool
  c : Bool
  epB : Bool
  spLo : Byte
  spBank : Byte
  ir : Byte
  tl : Byte
  th : Byte
  dataOut : Byte
  mx : Bool
  abortb : Bool
  irqb : Bool
  nmib : Bool
  be : Bool
  rdy : Bool
  deriving DecidableEq, Repr

/-- The state after the reset sequence (R45) on a platform, with the bus tick of the release clock done (R303): the
values the spec gives, and the draws for the rest. The parameters and the platform are arguments (R7). -/
def State.launch (params : Config.Params) (w : Draws) (devices : List Device) : State where
  params := params
  regs := {
    a := w.a
    x := mkWord 0x00 w.xl
    y := mkWord 0x00 w.yl
    pc := params.vecEReset
    p := ⟨w.n, w.v, true, true, false, true, w.z, w.c⟩
    epE := true
    epB := w.epB
    d := 0x000000
    sp := mkLong w.spBank (mkWord 0x01 w.spLo)
    dbr := 0x000000 }
  seq := {
    ir := w.ir
    ic := 0
    rlc := 0
    tl := w.tl
    th := w.th
    dataOut := w.dataOut
    dataIn := busRead params.unclaimedRead devices params.vecEReset }
  pins := {
    addressOut := params.vecEReset
    ctl := .fetchOpcode
    eLine := true
    mx := w.mx
    resb := true
    abortb := w.abortb
    irqb := w.irqb
    nmib := w.nmib
    be := w.be
    rdy := w.rdy
    phi2 := false }
  devices := devices
  diag := readDiag devices params.vecEReset
  hostResb := []

/-- The values this model names for what reset leaves unspecified: zero for registers and latches, the inactive level
for lines (DESIGN CHOICE, log 3, log 12). No claim rests on them. -/
def Draws.named : Draws where
  a := 0
  xl := 0
  yl := 0
  n := false
  v := false
  z := false
  c := false
  epB := false
  spLo := 0
  spBank := 0
  ir := 0
  tl := 0
  th := 0
  dataOut := 0
  mx := true
  abortb := true
  irqb := true
  nmib := true
  be := true
  rdy := true

/-- The device list this model names, the spec giving `DEVICES` no default (R7): one RAM over the whole space, with
nothing listed (DESIGN CHOICE, log 4). -/
def platform : List Device := [⟨.ram, 0x000000, 0xFFFFFF, []⟩]

/-- The machine right after reset (R45), with the spec's default parameters (log 18) and the values and the platform this
model names. -/
def State.reset : State := State.launch Config.params Draws.named platform

end Sys2Proof.Machine
end

