-- ==== Sys2Proof/Machine/Flags.lean ====
section
/-!
DEFINITION. Machine/Flags.lean: the bits of `P` (spec/10_state.md R28) and every flag computation
(spec/42_arithmetic.md R190, R191, spec/43_load_store.md, spec/45_index_transfer.md R230).
-/

namespace Sys2Proof.Machine

/-- `P` as a byte: N V M X D I Z C from bit 7 down to bit 0 (R28). -/
def Status.toByte (p : Status) : Byte :=
  BitVec.ofBool p.n ++ BitVec.ofBool p.v ++ BitVec.ofBool p.m ++ BitVec.ofBool p.x ++
    BitVec.ofBool p.d ++ BitVec.ofBool p.i ++ BitVec.ofBool p.z ++ BitVec.ofBool p.c

/-- The flags of a byte (R28). -/
def Status.ofByte (b : Byte) : Status where
  n := b.getLsbD 7
  v := b.getLsbD 6
  m := b.getLsbD 5
  x := b.getLsbD 4
  d := b.getLsbD 3
  i := b.getLsbD 2
  z := b.getLsbD 1
  c := b.getLsbD 0

/-- `P <- P AND (NOT m)` (R173). -/
def Status.clearMask (p : Status) (mask : Byte) : Status := .ofByte (p.toByte &&& ~~~mask)

/-- `P <- P OR m` (R174). -/
def Status.setMask (p : Status) (mask : Byte) : Status := .ofByte (p.toByte ||| mask)

/-- `P.M <- 1 ; P.X <- 1` (R31). -/
def Status.forceNarrow (p : Status) : Status := { p with m := true, x := true }

/-- `P.N` and `P.Z` of an 8-bit result (R191). -/
def Status.nz8 (p : Status) (r : Byte) : Status := { p with n := r.getLsbD 7, z := r == 0 }

/-- `P.N` and `P.Z` of a 16-bit result (R191). -/
def Status.nz16 (p : Status) (r : Word) : Status := { p with n := r.getLsbD 15, z := r == 0 }

/-- The exact sum of two `w`-bit values and the carry (R190). -/
def adcSum {w : Nat} (a v : BitVec w) (c : Bool) : Nat := a.toNat + v.toNat + c.toNat

/-- The carry-out of ADC: the true carry of the sum, but for the corner where the operand is all ones and the carry-in
is 1, which `ADC_CARRY_CORNER` decides (R190 (b)). -/
def adcCarry {w : Nat} (corner : Bool) (a v : BitVec w) (c : Bool) : Bool :=
  if v = BitVec.allOnes w ∧ c = true then corner
  else decide (2 ^ w ≤ adcSum a v c)

/-- The `w`-bit result of ADC (R190). -/
def adcResult {w : Nat} (a v : BitVec w) (c : Bool) : BitVec w := BitVec.ofNat w (adcSum a v c)

/-- `P` after ADC: C and Z written both ways, N, V and D as they were (R190). -/
def Status.adc {w : Nat} (p : Status) (corner : Bool) (a v : BitVec w) : Status :=
  { p with c := adcCarry corner a v p.c, z := adcResult a v p.c == 0 }

end Sys2Proof.Machine
end

