-- ==== Sys2Proof/Machine/Operands.lean ====
section
/-!
DEFINITION. Machine/Operands.lean: the register views, the addresses and the operand forms
(spec/00_scope.md R9, spec/10_state.md R21, R22, R25, spec/20_memory.md R74, R76, spec/43_load_store.md R200).
-/

namespace Sys2Proof.Machine

/-- `AL` (R9). -/
def Regs.al (r : Regs) : Byte := loByte r.a
/-- `AH` (R9). -/
def Regs.ah (r : Regs) : Byte := hiByte r.a
/-- `XL` (R9). -/
def Regs.xl (r : Regs) : Byte := loByte r.x
/-- `XH` (R9). -/
def Regs.xh (r : Regs) : Byte := hiByte r.x
/-- `YL` (R9). -/
def Regs.yl (r : Regs) : Byte := loByte r.y
/-- `YH` (R9). -/
def Regs.yh (r : Regs) : Byte := hiByte r.y

/-- `EP` as a byte: `EP.E` at bit 0, `EP.B` at bit 4, the other bits 0 (R30, D2). -/
def Regs.ep (r : Regs) : Byte :=
  (if r.epB then 0x10 else 0x00) ||| (if r.epE then 0x01 else 0x00)

/-- A word with its low byte replaced: an 8-bit write leaves the high half alone (R21, R22). -/
def withLow (w : Word) (b : Byte) : Word := mkWord (hiByte w) b

/-- `XH <- 0x00 ; YH <- 0x00` (R172, R174, R301). -/
def Regs.clearIndexHigh (r : Regs) : Regs :=
  { r with x := mkWord 0x00 (loByte r.x), y := mkWord 0x00 (loByte r.y) }

/-- `w(flag)`: 8 if the flag bit is 1, 16 if it is 0 (R10). -/
def widthOf (flag : Bool) : Nat := if flag then 8 else 16

/-- `inc_pc()`: the offset plus 1 modulo 2^16, the bank kept (R25). -/
def incOffset (pc : Long) : Long := mkLong (bankOf pc) (offOf pc + 1)

/-- The address of byte `k` of the instruction at `pc` (R26, R76): `inc_pc` applied `k` times. -/
def codeAddr (pc : Long) : Nat → Long
  | 0 => pc
  | k + 1 => incOffset (codeAddr pc k)

/-- The effective address of an absolute data operand: `DBR.bank : addr16` (R200, R204). -/
def absoluteEa (dbr : Long) (addr : Word) : Long := mkLong (bankOf dbr) addr

/-- The address of the second byte of a 16-bit datum: `(ea + 1) mod 2^24` (R76). -/
def nextDataAddr (ea : Long) : Long := ea + 1

/-- The bytes a store of `A` leaves in memory, with their addresses, in bus order: the width by `P.M`, low byte first
(R74, R204). -/
def storedBytes (r : Regs) (addr : Word) : List (Long × Byte) :=
  let ea := absoluteEa r.dbr addr
  if r.p.m then [(ea, r.al)] else [(ea, r.al), (nextDataAddr ea, r.ah)]

/-- `BusRead(a)` as a byte, on the devices and with the sentinel of the state (R64). -/
def State.busByte (s : State) (a : Long) : Byte := busRead s.params.unclaimedRead s.devices a

/-- The instruction at an instruction boundary: its opcode is the byte on `data_in` (R131), its operand bytes are what
the bus reads at the next code addresses, its immediate width is that of the flags (R103; log 15). -/
def fetchInstr (s : State) : Instr :=
  decodeWindow s.regs.p.m s.regs.p.x s.seq.dataIn
    (s.busByte (codeAddr s.regs.pc 1))
    (s.busByte (codeAddr s.regs.pc 2))
    (s.busByte (codeAddr s.regs.pc 3))

/-- The `ADDR` line (R40, R70). -/
def State.addrLine (s : State) : Word := offOf s.pins.addressOut

/-- The `DB` line: the bank while PHI2 is high, then the byte the commit point left, read or written (R40, R70, R71;
log 13). -/
def State.dbLine (s : State) : Byte :=
  if s.pins.phi2 then bankOf s.pins.addressOut
  else if s.pins.ctl.rwb then s.seq.dataIn else s.seq.dataOut

end Sys2Proof.Machine
end

