-- ==== Sys2Proof/Machine/Ops.lean ====
section
/-!
DEFINITION. Machine/Ops.lean: the named operations every instruction is made of: the actions of a micro-step
(spec/40_cycle_engine.md R136 to R142), the bus tick (spec/20_memory.md R73), the reset sequence, which is the core's
one transfer of control that is no instruction (spec/60_exceptions.md R275; spec/70_reset_and_hazards.md R300 to R305),
the rows of the seven cycle patterns (R140 to R147), and what an opcode without a handler does.
-/

namespace Sys2Proof.Machine

/-! ### Actions of a micro-step -/

/-- Registers changed by a function of the registers alone. -/
def onRegs (f : Regs → Regs) (s : State) : State := { s with regs := f s.regs }

/-- `IR <- op` (R131 case 3, R134). -/
def latchIr (op : Byte) (s : State) : State := { s with seq := { s.seq with ir := op } }

/-- `ic <- n` (R136). -/
def setIc (n : Byte) (s : State) : State := { s with seq := { s.seq with ic := n } }

/-- `TL <- b` (R39). -/
def setTl (b : Byte) (s : State) : State := { s with seq := { s.seq with tl := b } }

/-- `TH <- b` (R39). -/
def setTh (b : Byte) (s : State) : State := { s with seq := { s.seq with th := b } }

/-- `data_out <- b` (R39). -/
def setDataOut (b : Byte) (s : State) : State := { s with seq := { s.seq with dataOut := b } }

/-- `inc_pc()` (R25). -/
def incPc (s : State) : State := onRegs (fun r => { r with pc := incOffset r.pc }) s

/-- `address_out <- a ; lines <- l` (R35, R137). -/
def drive (a : Long) (l : Lines) (s : State) : State :=
  { s with pins := { s.pins with addressOut := a, ctl := l } }

/-- `address_out <- PC ; lines <- l`, the `PC` being the one after the actions before it (R142). -/
def present (l : Lines) (s : State) : State := drive s.regs.pc l s

/-- `E_line <- EP.E` (R41). -/
def driveE (s : State) : State := { s with pins := { s.pins with eLine := s.regs.epE } }

/-- `raise Diag`: an event on the diagnostic channel, no other effect (R270). -/
def raiseDiag (e : Diag) (s : State) : State := { s with diag := e :: s.diag }

/-- The level of PHI2, driven by the host: high at the start of `Clock()`, low at the commit point (R69). -/
def setPhi2 (b : Bool) (s : State) : State := { s with pins := { s.pins with phi2 := b } }

/-! ### The bus tick and the host -/

/-- `data_in <- BusRead(address_out)`, with its event where no device claims the address (R64, R73). -/
def busTickRead (s : State) : State :=
  { s with
    seq := { s.seq with dataIn := s.busByte s.pins.addressOut }
    diag := readDiag s.devices s.pins.addressOut ++ s.diag }

/-- `BusWrite(address_out, data_out)`, with its event where no device claims the write (R65, R73); `data_in` stays
(U13). -/
def busTickWrite (s : State) : State :=
  { s with
    devices := busWrite s.devices s.pins.addressOut s.seq.dataOut
    diag := writeDiag s.devices s.pins.addressOut s.seq.dataOut ++ s.diag }

/-- `BusTick()` at the high-to-low transition of PHI2, its direction by RWB (R71, R73). -/
def busTick (s : State) : State :=
  setPhi2 false (if s.pins.ctl.rwb then busTickRead s else busTickWrite s)

/-- The host's move between a bus tick and the next `Clock()`: the next scheduled level of RESB (R72; log 2). -/
def hostMove (s : State) : State :=
  match s.hostResb with
  | [] => s
  | b :: bs => { s with pins := { s.pins with resb := b }, hostResb := bs }

/-- `k` moves of the host. -/
def hostMoves : Nat → State → State
  | 0, s => s
  | k + 1, s => hostMoves k (hostMove s)

/-- No RESB level that the host schedules lets reset begin before the last of `k` clocks (R132). -/
def quiet (k : Nat) (s : State) : Bool := (s.hostResb.take (k - 1)).all id

/-- Micro-steps in order, each followed by its bus tick (R72). -/
def runClocks : List (State → State) → State → State
  | [], s => s
  | f :: fs, s => runClocks fs (busTick (f s))

/-! ### Reset: the one entry that is no instruction (R275). Nothing returns from it (R278). -/

/-- `ForceResetState()` (R301); what it does not write is R302. -/
def forceResetState (s : State) : State :=
  driveE { s with
    regs := { s.regs.clearIndexHigh with
      d := 0x000000
      dbr := 0x000000
      sp := mkLong (bankOf s.regs.sp) (mkWord 0x01 (loByte (offOf s.regs.sp)))
      p := { s.regs.p with m := true, x := true, d := false, i := true }
      epE := true }
    pins := { s.pins with ctl := .resetIdle } }

/-- `ResetHold()` (R300). -/
def resetHold (s : State) : State :=
  let n := min (s.seq.rlc + 1) 2
  let s := { s with seq := { s.seq with rlc := n } }
  if 2 ≤ n then forceResetState s else s

/-- `ResetRelease()` (R303): the RESET vector of the mode, a parameter, itself goes to `PC` (R277). -/
def resetRelease (s : State) : State :=
  present .fetchOpcode { s with
    regs := { s.regs with pc := (s.params.vectors s.regs.epE).reset }
    seq := { s.seq with ic := 0, rlc := 0 } }

/-! ### Rows of the cycle patterns -/

/-- Row `ic = 0` of IMMP3, IMM, JMPABS, JMPLONG and ABSWRITE (R141, R143 to R146). -/
def openOperand (s : State) : State := s |> incPc |> present .fetchOperand |> setIc 1

/-- Row `ic = 0` of IMPLIED2 and HALT3 (R140, R147). -/
def openInternal (s : State) : State := s |> incPc |> present .internal |> setIc 1

/-- The end of every last row: `address_out <- PC ; lines <- FETCH_OPCODE`, `ic` after 0 (R136). -/
def closeInstr (s : State) : State := s |> present .fetchOpcode |> setIc 0

/-- Row `ic = 1` of IMPLIED2 (R140). -/
def impliedLast (op : State → State) (s : State) : State := s |> op |> closeInstr

/-- Row `ic = 1` of IMMP3 (R141). -/
def maskLatch (b : Byte) (s : State) : State := s |> setTl b |> incPc |> present .internal |> setIc 2

/-- Row `ic = 2` of IMMP3 (R141). -/
def maskLast (op : Byte → State → State) (s : State) : State := s |> op s.seq.tl |> closeInstr

/-- Row `ic = 1`, `F = 1` of IMM (R143). -/
def immLast8 (op : Byte → State → State) (b : Byte) (s : State) : State :=
  s |> setTl b |> incPc |> op b |> closeInstr

/-- Row `ic = 1` of IMM with `F = 0`, of JMPABS, of JMPLONG and of ABSWRITE (R143 to R146). -/
def operandLow (b : Byte) (s : State) : State := s |> setTl b |> incPc |> present .fetchOperand |> setIc 2

/-- Row `ic = 2` of IMM (R143). -/
def immLast16 (op : Word → State → State) (b : Byte) (s : State) : State :=
  s |> setTh b |> incPc |> op (mkWord b s.seq.tl) |> closeInstr

/-- Row `ic = 2` of JMPABS (R144). -/
def jumpAbsLast (b : Byte) (s : State) : State :=
  s |> onRegs (fun r => { r with pc := mkLong (bankOf r.pc) (mkWord b s.seq.tl) }) |> closeInstr

/-- Row `ic = 2` of JMPLONG (R145). -/
def operandHigh (b : Byte) (s : State) : State := s |> setTh b |> incPc |> present .fetchOperand |> setIc 3

/-- Row `ic = 3` of JMPLONG (R145). -/
def jumpLongLast (b : Byte) (s : State) : State :=
  s |> onRegs (fun r => { r with pc := mkLong b (mkWord s.seq.th s.seq.tl) }) |> closeInstr

/-- Row `ic = 2` of ABSWRITE (R146): the low byte of `A` goes out to `DBR.bank : TH : TL`. -/
def storeLow (b : Byte) (s : State) : State :=
  s |> setTh b |> incPc |> setDataOut s.regs.al
    |> drive (absoluteEa s.regs.dbr (mkWord b s.seq.tl)) .dataWrite |> setIc 3

/-- Row `ic = 3`, `P.M = 0` of ABSWRITE (R146): the high byte of `A` goes out to the next address. -/
def storeHigh (s : State) : State :=
  s |> setDataOut s.regs.ah |> drive (nextDataAddr s.pins.addressOut) .dataWrite |> setIc 4

/-- Rows `ic = 1` and `ic = 2` of HALT3 (R147): `ic` ends at 2 and stays there. -/
def haltHold (s : State) : State := s |> present .internal |> setIc 2

/-! ### Whole patterns at the instruction level: their rows in order, on given operand bytes (R11) -/

/-- IMPLIED2 (R140). -/
def implied2 (opcode : Byte) (op : State → State) (s : State) : State :=
  runClocks [fun t => openInternal (latchIr opcode t), impliedLast op] s

/-- IMMP3 (R141). -/
def immp3 (opcode : Byte) (op : Byte → State → State) (mask : Byte) (s : State) : State :=
  runClocks [fun t => openOperand (latchIr opcode t), maskLatch mask, maskLast op] s

/-- IMM with `F = 1` (R143). -/
def imm8 (opcode : Byte) (op : Byte → State → State) (v : Byte) (s : State) : State :=
  runClocks [fun t => openOperand (latchIr opcode t), immLast8 op v] s

/-- IMM with `F = 0` (R143). -/
def imm16 (opcode : Byte) (op : Word → State → State) (v : Word) (s : State) : State :=
  runClocks [fun t => openOperand (latchIr opcode t), operandLow (loByte v), immLast16 op (hiByte v)] s

/-- IMM, the path chosen by the width flag (R143): an operand of the other width is no instruction under that flag
(R103; log 8). -/
def immediate (opcode : Byte) (narrow : Bool) (op8 : Byte → State → State) (op16 : Word → State → State) (imm : Imm)
    (s : State) : Result :=
  match narrow, imm with
  | true, .b8 v => .next (imm8 opcode op8 v s)
  | false, .w16 v => .next (imm16 opcode op16 v s)
  | true, .w16 _ => .refused .operandWidth
  | false, .b8 _ => .refused .operandWidth

/-- JMPABS (R144). -/
def jmpAbs (opcode : Byte) (addr : Word) (s : State) : State :=
  runClocks [fun t => openOperand (latchIr opcode t), operandLow (loByte addr), jumpAbsLast (hiByte addr)] s

/-- JMPLONG (R145). -/
def jmpLong (opcode : Byte) (addr : Long) (s : State) : State :=
  runClocks [fun t => openOperand (latchIr opcode t), operandLow (loByte (offOf addr)),
    operandHigh (hiByte (offOf addr)), jumpLongLast (bankOf addr)] s

/-- ABSWRITE (R146): 4 clocks when `P.M = 1`, 5 when `P.M = 0`. -/
def absWrite (opcode : Byte) (addr : Word) (s : State) : State :=
  if s.regs.p.m then
    runClocks [fun t => openOperand (latchIr opcode t), operandLow (loByte addr), storeLow (hiByte addr),
      closeInstr] s
  else
    runClocks [fun t => openOperand (latchIr opcode t), operandLow (loByte addr), storeLow (hiByte addr),
      storeHigh, closeInstr] s

/-- HALT3 (R147): the three clocks that reach the hold. -/
def halt3 (opcode : Byte) (s : State) : State :=
  runClocks [fun t => openInternal (latchIr opcode t), haltHold, haltHold] s

/-! ### Opcodes without a handler -/

/-- As the block is built: the event, and no other change (R254). -/
def stagnate (s : State) : State := raiseDiag (.unimplementedOpcode s.seq.ir s.regs.pc) s

/-- A placeholder opcode under a treatment: refused with the payload of the diagnostic (U1), or one clock of
stagnation (R254). -/
def placeholderWith (t : Config.PlaceholderTreatment) (opcode : Byte) (s : State) : Result :=
  match t with
  | .refuse => .refused (.unimplementedOpcode opcode s.regs.pc)
  | .stagnate => .next (runClocks [fun u => stagnate (latchIr opcode u)] s)

/-- The treatment the spec orders: "a model must refuse all 236 rather than assume stagnation" (R108, R254, U1;
log 6). -/
def placeholderTreatment : Config.PlaceholderTreatment := .refuse

/-- A placeholder opcode (R108, R254). -/
def placeholder (opcode : Byte) (s : State) : Result := placeholderWith placeholderTreatment opcode s

/-- The meaning of an opcode whose handler the spec defines, where `IMPLEMENTED` has it; where it does not, the opcode is
one more placeholder (R7, R106, R108). -/
def withHandler (opcode : Byte) (meaning : State → Result) (s : State) : Result :=
  if s.params.implements opcode then meaning s else placeholder opcode s

end Sys2Proof.Machine
end

