-- ==== Sys2Proof/Machine/Arithmetic.lean ====
section
/-!
DEFINITION. Machine/Arithmetic.lean: ADC #imm (spec/42_arithmetic.md R190, R191).
-/

namespace Sys2Proof.Machine

/-- R190 `Op8`: `AL`, C and Z; `AH` unchanged. `corner` is `ADC_CARRY_CORNER`. -/
def opAdc8 (corner : Bool) (v : Byte) : State → State := onRegs fun r =>
  { r with a := withLow r.a (adcResult r.al v r.p.c), p := r.p.adc corner r.al v }

/-- R190 `Op16`: `A`, C and Z. -/
def opAdc16 (corner : Bool) (v : Word) : State → State := onRegs fun r =>
  { r with a := adcResult r.a v r.p.c, p := r.p.adc corner r.a v }

/-- ADC #imm (R190). -/
def execAdcImm (imm : Imm) (s : State) : Result :=
  withHandler 0x69 (fun t =>
    immediate 0x69 t.regs.p.m (opAdc8 t.params.adcCarryCorner) (opAdc16 t.params.adcCarryCorner) imm t) s

end Sys2Proof.Machine
end

