-- ==== Sys2Proof/Machine/FlagMode.lean ====
section
/-!
DEFINITION. Machine/FlagMode.lean: CLC, SEC, XCE, REP, SEP (spec/41_flags_mode.md).
-/

namespace Sys2Proof.Machine

/-- R170: `P.C <- 0`. -/
def opClc : State → State := onRegs fun r => { r with p := { r.p with c := false } }

/-- R171: `P.C <- 1`. -/
def opSec : State → State := onRegs fun r => { r with p := { r.p with c := true } }

/-- R172 over the registers: `P.C` and `EP.E` exchanged; M, X and the index high bytes forced in emulation. -/
def exchangeCarry (r : Regs) : Regs :=
  let r' := { r with epE := r.p.c, p := { r.p with c := r.epE } }
  if r'.epE then { r'.clearIndexHigh with p := r'.p.forceNarrow } else r'

/-- R172: the exchange, and the `E` line. -/
def opXce (s : State) : State := driveE (onRegs exchangeCarry s)

/-- R173 over the registers. -/
def clearBits (mask : Byte) (r : Regs) : Regs :=
  let p := r.p.clearMask mask
  { r with p := if r.epE then p.forceNarrow else p }

/-- R173. -/
def opRep (mask : Byte) : State → State := onRegs (clearBits mask)

/-- R174 over the registers. -/
def setBits (mask : Byte) (r : Regs) : Regs :=
  let p := r.p.setMask mask
  let p := if r.epE then p.forceNarrow else p
  let r := { r with p := p }
  if p.x then r.clearIndexHigh else r

/-- R174. -/
def opSep (mask : Byte) : State → State := onRegs (setBits mask)

/-- CLC (R170). -/
def execClc (s : State) : Result := withHandler 0x18 (fun t => .next (implied2 0x18 opClc t)) s

/-- SEC (R171). -/
def execSec (s : State) : Result := withHandler 0x38 (fun t => .next (implied2 0x38 opSec t)) s

/-- XCE (R172). -/
def execXce (s : State) : Result := withHandler 0xFB (fun t => .next (implied2 0xFB opXce t)) s

/-- REP #imm8 (R173). -/
def execRep (mask : Byte) (s : State) : Result := withHandler 0xC2 (fun t => .next (immp3 0xC2 opRep mask t)) s

/-- SEP #imm8 (R174). -/
def execSep (mask : Byte) (s : State) : Result := withHandler 0xE2 (fun t => .next (immp3 0xE2 opSep mask t)) s

end Sys2Proof.Machine
end

