-- ==== Sys2Proof/Machine/Index.lean ====
section
/-!
DEFINITION. Machine/Index.lean: INX, INY, DEX, DEY, TAX (spec/45_index_transfer.md).
-/

namespace Sys2Proof.Machine

/-- R230: the value an index register receives at the width of `P.X`, with N and Z of the written part; in the 8-bit
case the high byte stays. -/
def indexResult (p : Status) (old : Word) (r8 : Byte) (r16 : Word) : Word × Status :=
  if p.x then (withLow old r8, p.nz8 r8) else (r16, p.nz16 r16)

/-- `X` and `P` written with an index result (R230). -/
def Regs.putX (r : Regs) (r8 : Byte) (r16 : Word) : Regs :=
  let o := indexResult r.p r.x r8 r16
  { r with x := o.1, p := o.2 }

/-- `Y` and `P` written with an index result (R230). -/
def Regs.putY (r : Regs) (r8 : Byte) (r16 : Word) : Regs :=
  let o := indexResult r.p r.y r8 r16
  { r with y := o.1, p := o.2 }

/-- R231. -/
def opInx : State → State := onRegs fun r => r.putX (r.xl + 1) (r.x + 1)

/-- R232. -/
def opIny : State → State := onRegs fun r => r.putY (r.yl + 1) (r.y + 1)

/-- R233. -/
def opDex : State → State := onRegs fun r => r.putX (r.xl - 1) (r.x - 1)

/-- R234. -/
def opDey : State → State := onRegs fun r => r.putY (r.yl - 1) (r.y - 1)

/-- R235: the width is that of the destination, so all of `A` moves when `P.X = 0`, whatever `P.M` is. -/
def opTax : State → State := onRegs fun r => r.putX r.al r.a

/-- INX (R231). -/
def execInx (s : State) : Result := withHandler 0xE8 (fun t => .next (implied2 0xE8 opInx t)) s

/-- INY (R232). -/
def execIny (s : State) : Result := withHandler 0xC8 (fun t => .next (implied2 0xC8 opIny t)) s

/-- DEX (R233). -/
def execDex (s : State) : Result := withHandler 0xCA (fun t => .next (implied2 0xCA opDex t)) s

/-- DEY (R234). -/
def execDey (s : State) : Result := withHandler 0x88 (fun t => .next (implied2 0x88 opDey t)) s

/-- TAX (R235). -/
def execTax (s : State) : Result := withHandler 0xAA (fun t => .next (implied2 0xAA opTax t)) s

end Sys2Proof.Machine
end

