-- ==== Sys2Proof/Machine/Jump.lean ====
section
/-!
DEFINITION. Machine/Jump.lean: JMP addr16 and JMP addr24 (spec/44_jump.md).
-/

namespace Sys2Proof.Machine

/-- JMP addr16 (R220): the bank is unchanged. -/
def execJmpAbs (addr : Word) (s : State) : Result := withHandler 0x4C (fun t => .next (jmpAbs 0x4C addr t)) s

/-- JMP addr24 (R221). -/
def execJmpAbsLong (addr : Long) (s : State) : Result := withHandler 0x5C (fun t => .next (jmpLong 0x5C addr t)) s

end Sys2Proof.Machine
end

