-- ==== Sys2Proof/Machine/LoadStore.lean ====
section
/-!
DEFINITION. Machine/LoadStore.lean: LDA, LDX, LDY #imm and STA addr16 (spec/43_load_store.md).
-/

namespace Sys2Proof.Machine

/-- R201 `Op8`: `AL <- v`, `AH` unchanged. -/
def opLda8 (v : Byte) : State → State := onRegs fun r => { r with a := withLow r.a v, p := r.p.nz8 v }

/-- R201 `Op16`. -/
def opLda16 (v : Word) : State → State := onRegs fun r => { r with a := v, p := r.p.nz16 v }

/-- R202 `Op8`: `XL <- v`. -/
def opLdx8 (v : Byte) : State → State := onRegs fun r => { r with x := withLow r.x v, p := r.p.nz8 v }

/-- R202 `Op16`. -/
def opLdx16 (v : Word) : State → State := onRegs fun r => { r with x := v, p := r.p.nz16 v }

/-- R203 `Op8`: `YL <- v`. -/
def opLdy8 (v : Byte) : State → State := onRegs fun r => { r with y := withLow r.y v, p := r.p.nz8 v }

/-- R203 `Op16`. -/
def opLdy16 (v : Word) : State → State := onRegs fun r => { r with y := v, p := r.p.nz16 v }

/-- LDA #imm (R201). -/
def execLdaImm (imm : Imm) (s : State) : Result :=
  withHandler 0xA9 (fun t => immediate 0xA9 t.regs.p.m opLda8 opLda16 imm t) s

/-- LDX #imm (R202). -/
def execLdxImm (imm : Imm) (s : State) : Result :=
  withHandler 0xA2 (fun t => immediate 0xA2 t.regs.p.x opLdx8 opLdx16 imm t) s

/-- LDY #imm (R203). -/
def execLdyImm (imm : Imm) (s : State) : Result :=
  withHandler 0xA0 (fun t => immediate 0xA0 t.regs.p.x opLdy8 opLdy16 imm t) s

/-- STA addr16 (R204): the stored bytes are `storedBytes`. -/
def execStaAbs (addr : Word) (s : State) : Result := withHandler 0x8D (fun t => .next (absWrite 0x8D addr t)) s

end Sys2Proof.Machine
end

