-- ==== Sys2Proof/Machine/Placeholder.lean ====
section
/-!
DEFINITION. Machine/Placeholder.lean: the 236 opcodes outside `IMPLEMENTED` (spec/30_encoding.md R108,
spec/46_system.md R254). "A model must *refuse* a program that fetches any of them rather than model the stagnation as
certain, because some of them have unseen handlers" (R254; spec/93_implementation_defined.md U1, U18): each is refused
with its opcode and the `PC`, the payload of the diagnostic the core would raise. Each has a definition of its own over
`placeholder`; its operand bytes are read by no rule (log 6, log 7).
-/

namespace Sys2Proof.Machine

/-- BRK `s`: R254, U1. -/
def execBrk (_ : Byte) (s : State) : Result := placeholder 0x00 s
/-- ORA `(d,x)`: R254, U1. -/
def execOraDirXInd (_ : Byte) (s : State) : Result := placeholder 0x01 s
/-- COP `s`: R254, U1. -/
def execCop (_ : Byte) (s : State) : Result := placeholder 0x02 s
/-- ORA `d,s`: R254, U1. -/
def execOraStk (_ : Byte) (s : State) : Result := placeholder 0x03 s
/-- TSB `d`: R254, U1. -/
def execTsbDir (_ : Byte) (s : State) : Result := placeholder 0x04 s
/-- ORA `d`: R254, U1. -/
def execOraDir (_ : Byte) (s : State) : Result := placeholder 0x05 s
/-- ASL `d`: R254, U1. -/
def execAslDir (_ : Byte) (s : State) : Result := placeholder 0x06 s
/-- ORA `[d]`: R254, U1. -/
def execOraDirIndLong (_ : Byte) (s : State) : Result := placeholder 0x07 s
/-- PHP `s`: R254, U1. -/
def execPhp (s : State) : Result := placeholder 0x08 s
/-- ORA `#m`: R254, U1. -/
def execOraImm (_ : Imm) (s : State) : Result := placeholder 0x09 s
/-- ASL `A`: R254, U1. -/
def execAslAcc (s : State) : Result := placeholder 0x0A s
/-- PHD `s`: R254, U1. -/
def execPhd (s : State) : Result := placeholder 0x0B s
/-- TSB `a`: R254, U1. -/
def execTsbAbs (_ : Word) (s : State) : Result := placeholder 0x0C s
/-- ORA `a`: R254, U1. -/
def execOraAbs (_ : Word) (s : State) : Result := placeholder 0x0D s
/-- ASL `a`: R254, U1. -/
def execAslAbs (_ : Word) (s : State) : Result := placeholder 0x0E s
/-- ORA `al`: R254, U1. -/
def execOraAbsLong (_ : Long) (s : State) : Result := placeholder 0x0F s
/-- BPL `r`: R254, U1. -/
def execBpl (_ : Byte) (s : State) : Result := placeholder 0x10 s
/-- ORA `(d),y`: R254, U1. -/
def execOraDirIndY (_ : Byte) (s : State) : Result := placeholder 0x11 s
/-- ORA `(d)`: R254, U1. -/
def execOraDirInd (_ : Byte) (s : State) : Result := placeholder 0x12 s
/-- ORA `(d,s),y`: R254, U1. -/
def execOraStkIndY (_ : Byte) (s : State) : Result := placeholder 0x13 s
/-- TRB `d`: R254, U1. -/
def execTrbDir (_ : Byte) (s : State) : Result := placeholder 0x14 s
/-- ORA `d,x`: R254, U1. -/
def execOraDirX (_ : Byte) (s : State) : Result := placeholder 0x15 s
/-- ASL `d,x`: R254, U1. -/
def execAslDirX (_ : Byte) (s : State) : Result := placeholder 0x16 s
/-- ORA `[d],y`: R254, U1. -/
def execOraDirIndLongY (_ : Byte) (s : State) : Result := placeholder 0x17 s
/-- ORA `a,y`: R254, U1. -/
def execOraAbsY (_ : Word) (s : State) : Result := placeholder 0x19 s
/-- INC `A`: R254, U1. -/
def execIncAcc (s : State) : Result := placeholder 0x1A s
/-- TCS `i`: R254, U1. -/
def execTcs (s : State) : Result := placeholder 0x1B s
/-- TRB `a`: R254, U1. -/
def execTrbAbs (_ : Word) (s : State) : Result := placeholder 0x1C s
/-- ORA `a,x`: R254, U1. -/
def execOraAbsX (_ : Word) (s : State) : Result := placeholder 0x1D s
/-- ASL `a,x`: R254, U1. -/
def execAslAbsX (_ : Word) (s : State) : Result := placeholder 0x1E s
/-- ORA `al,x`: R254, U1. -/
def execOraAbsLongX (_ : Long) (s : State) : Result := placeholder 0x1F s
/-- JSR `a`: R254, U1. -/
def execJsrAbs (_ : Word) (s : State) : Result := placeholder 0x20 s
/-- AND `(d,x)`: R254, U1. -/
def execAndDirXInd (_ : Byte) (s : State) : Result := placeholder 0x21 s
/-- JSL `al`: R254, U1. -/
def execJslAbsLong (_ : Long) (s : State) : Result := placeholder 0x22 s
/-- AND `d,s`: R254, U1. -/
def execAndStk (_ : Byte) (s : State) : Result := placeholder 0x23 s
/-- BIT `d`: R254, U1. -/
def execBitDir (_ : Byte) (s : State) : Result := placeholder 0x24 s
/-- AND `d`: R254, U1. -/
def execAndDir (_ : Byte) (s : State) : Result := placeholder 0x25 s
/-- ROL `d`: R254, U1. -/
def execRolDir (_ : Byte) (s : State) : Result := placeholder 0x26 s
/-- AND `[d]`: R254, U1. -/
def execAndDirIndLong (_ : Byte) (s : State) : Result := placeholder 0x27 s
/-- PLP `s`: R254, U1. -/
def execPlp (s : State) : Result := placeholder 0x28 s
/-- AND `#m`: R254, U1. -/
def execAndImm (_ : Imm) (s : State) : Result := placeholder 0x29 s
/-- ROL `A`: R254, U1. -/
def execRolAcc (s : State) : Result := placeholder 0x2A s
/-- PLD `s`: R254, U1. -/
def execPld (s : State) : Result := placeholder 0x2B s
/-- BIT `a`: R254, U1. -/
def execBitAbs (_ : Word) (s : State) : Result := placeholder 0x2C s
/-- AND `a`: R254, U1. -/
def execAndAbs (_ : Word) (s : State) : Result := placeholder 0x2D s
/-- ROL `a`: R254, U1. -/
def execRolAbs (_ : Word) (s : State) : Result := placeholder 0x2E s
/-- AND `al`: R254, U1. -/
def execAndAbsLong (_ : Long) (s : State) : Result := placeholder 0x2F s
/-- BMI `r`: R254, U1. -/
def execBmi (_ : Byte) (s : State) : Result := placeholder 0x30 s
/-- AND `(d),y`: R254, U1. -/
def execAndDirIndY (_ : Byte) (s : State) : Result := placeholder 0x31 s
/-- AND `(d)`: R254, U1. -/
def execAndDirInd (_ : Byte) (s : State) : Result := placeholder 0x32 s
/-- AND `(d,s),y`: R254, U1. -/
def execAndStkIndY (_ : Byte) (s : State) : Result := placeholder 0x33 s
/-- BIT `d,x`: R254, U1. -/
def execBitDirX (_ : Byte) (s : State) : Result := placeholder 0x34 s
/-- AND `d,x`: R254, U1. -/
def execAndDirX (_ : Byte) (s : State) : Result := placeholder 0x35 s
/-- ROL `d,x`: R254, U1. -/
def execRolDirX (_ : Byte) (s : State) : Result := placeholder 0x36 s
/-- AND `[d],y`: R254, U1. -/
def execAndDirIndLongY (_ : Byte) (s : State) : Result := placeholder 0x37 s
/-- AND `a,y`: R254, U1. -/
def execAndAbsY (_ : Word) (s : State) : Result := placeholder 0x39 s
/-- DEC `A`: R254, U1. -/
def execDecAcc (s : State) : Result := placeholder 0x3A s
/-- TSC `i`: R254, U1. -/
def execTsc (s : State) : Result := placeholder 0x3B s
/-- BIT `a,x`: R254, U1. -/
def execBitAbsX (_ : Word) (s : State) : Result := placeholder 0x3C s
/-- AND `a,x`: R254, U1. -/
def execAndAbsX (_ : Word) (s : State) : Result := placeholder 0x3D s
/-- ROL `a,x`: R254, U1. -/
def execRolAbsX (_ : Word) (s : State) : Result := placeholder 0x3E s
/-- AND `al,x`: R254, U1. -/
def execAndAbsLongX (_ : Long) (s : State) : Result := placeholder 0x3F s
/-- RTI `s`: R254, U1. -/
def execRti (s : State) : Result := placeholder 0x40 s
/-- EOR `(d,x)`: R254, U1. -/
def execEorDirXInd (_ : Byte) (s : State) : Result := placeholder 0x41 s
/-- WDM `i`: R254, U1. -/
def execWdm (_ : Byte) (s : State) : Result := placeholder 0x42 s
/-- EOR `d,s`: R254, U1. -/
def execEorStk (_ : Byte) (s : State) : Result := placeholder 0x43 s
/-- MVP `xyc`: R254, U1. -/
def execMvp (_ : Word) (s : State) : Result := placeholder 0x44 s
/-- EOR `d`: R254, U1. -/
def execEorDir (_ : Byte) (s : State) : Result := placeholder 0x45 s
/-- LSR `d`: R254, U1. -/
def execLsrDir (_ : Byte) (s : State) : Result := placeholder 0x46 s
/-- EOR `[d]`: R254, U1. -/
def execEorDirIndLong (_ : Byte) (s : State) : Result := placeholder 0x47 s
/-- PHA `s`: R254, U1. -/
def execPha (s : State) : Result := placeholder 0x48 s
/-- EOR `#m`: R254, U1. -/
def execEorImm (_ : Imm) (s : State) : Result := placeholder 0x49 s
/-- LSR `A`: R254, U1. -/
def execLsrAcc (s : State) : Result := placeholder 0x4A s
/-- PHK `s`: R254, U1. -/
def execPhk (s : State) : Result := placeholder 0x4B s
/-- EOR `a`: R254, U1. -/
def execEorAbs (_ : Word) (s : State) : Result := placeholder 0x4D s
/-- LSR `a`: R254, U1. -/
def execLsrAbs (_ : Word) (s : State) : Result := placeholder 0x4E s
/-- EOR `al`: R254, U1. -/
def execEorAbsLong (_ : Long) (s : State) : Result := placeholder 0x4F s
/-- BVC `r`: R254, U1. -/
def execBvc (_ : Byte) (s : State) : Result := placeholder 0x50 s
/-- EOR `(d),y`: R254, U1. -/
def execEorDirIndY (_ : Byte) (s : State) : Result := placeholder 0x51 s
/-- EOR `(d)`: R254, U1. -/
def execEorDirInd (_ : Byte) (s : State) : Result := placeholder 0x52 s
/-- EOR `(d,s),y`: R254, U1. -/
def execEorStkIndY (_ : Byte) (s : State) : Result := placeholder 0x53 s
/-- MVN `xyc`: R254, U1. -/
def execMvn (_ : Word) (s : State) : Result := placeholder 0x54 s
/-- EOR `d,x`: R254, U1. -/
def execEorDirX (_ : Byte) (s : State) : Result := placeholder 0x55 s
/-- LSR `d,x`: R254, U1. -/
def execLsrDirX (_ : Byte) (s : State) : Result := placeholder 0x56 s
/-- EOR `[d],y`: R254, U1. -/
def execEorDirIndLongY (_ : Byte) (s : State) : Result := placeholder 0x57 s
/-- CLI `i`: R254, U1. -/
def execCli (s : State) : Result := placeholder 0x58 s
/-- EOR `a,y`: R254, U1. -/
def execEorAbsY (_ : Word) (s : State) : Result := placeholder 0x59 s
/-- PHY `s`: R254, U1. -/
def execPhy (s : State) : Result := placeholder 0x5A s
/-- TCD `i`: R254, U1. -/
def execTcd (s : State) : Result := placeholder 0x5B s
/-- EOR `a,x`: R254, U1. -/
def execEorAbsX (_ : Word) (s : State) : Result := placeholder 0x5D s
/-- LSR `a,x`: R254, U1. -/
def execLsrAbsX (_ : Word) (s : State) : Result := placeholder 0x5E s
/-- EOR `al,x`: R254, U1. -/
def execEorAbsLongX (_ : Long) (s : State) : Result := placeholder 0x5F s
/-- RTS `s`: R254, U1. -/
def execRts (s : State) : Result := placeholder 0x60 s
/-- ADC `(d,x)`: R254, U1. -/
def execAdcDirXInd (_ : Byte) (s : State) : Result := placeholder 0x61 s
/-- PER `s`: R254, U1. -/
def execPer (_ : Word) (s : State) : Result := placeholder 0x62 s
/-- ADC `d,s`: R254, U1. -/
def execAdcStk (_ : Byte) (s : State) : Result := placeholder 0x63 s
/-- STZ `d`: R254, U1. -/
def execStzDir (_ : Byte) (s : State) : Result := placeholder 0x64 s
/-- ADC `d`: R254, U1. -/
def execAdcDir (_ : Byte) (s : State) : Result := placeholder 0x65 s
/-- ROR `d`: R254, U1. -/
def execRorDir (_ : Byte) (s : State) : Result := placeholder 0x66 s
/-- ADC `[d]`: R254, U1. -/
def execAdcDirIndLong (_ : Byte) (s : State) : Result := placeholder 0x67 s
/-- PLA `s`: R254, U1. -/
def execPla (s : State) : Result := placeholder 0x68 s
/-- ROR `A`: R254, U1. -/
def execRorAcc (s : State) : Result := placeholder 0x6A s
/-- RTL `s`: R254, U1. -/
def execRtl (s : State) : Result := placeholder 0x6B s
/-- JMP `(a)`: R254, U1. -/
def execJmpAbsInd (_ : Word) (s : State) : Result := placeholder 0x6C s
/-- ADC `a`: R254, U1. -/
def execAdcAbs (_ : Word) (s : State) : Result := placeholder 0x6D s
/-- ROR `a`: R254, U1. -/
def execRorAbs (_ : Word) (s : State) : Result := placeholder 0x6E s
/-- ADC `al`: R254, U1. -/
def execAdcAbsLong (_ : Long) (s : State) : Result := placeholder 0x6F s
/-- BVS `r`: R254, U1. -/
def execBvs (_ : Byte) (s : State) : Result := placeholder 0x70 s
/-- ADC `(d),y`: R254, U1. -/
def execAdcDirIndY (_ : Byte) (s : State) : Result := placeholder 0x71 s
/-- ADC `(d)`: R254, U1. -/
def execAdcDirInd (_ : Byte) (s : State) : Result := placeholder 0x72 s
/-- ADC `(d,s),y`: R254, U1. -/
def execAdcStkIndY (_ : Byte) (s : State) : Result := placeholder 0x73 s
/-- STZ `d,x`: R254, U1. -/
def execStzDirX (_ : Byte) (s : State) : Result := placeholder 0x74 s
/-- ADC `d,x`: R254, U1. -/
def execAdcDirX (_ : Byte) (s : State) : Result := placeholder 0x75 s
/-- ROR `d,x`: R254, U1. -/
def execRorDirX (_ : Byte) (s : State) : Result := placeholder 0x76 s
/-- ADC `[d],y`: R254, U1. -/
def execAdcDirIndLongY (_ : Byte) (s : State) : Result := placeholder 0x77 s
/-- SEI `i`: R254, U1. -/
def execSei (s : State) : Result := placeholder 0x78 s
/-- ADC `a,y`: R254, U1. -/
def execAdcAbsY (_ : Word) (s : State) : Result := placeholder 0x79 s
/-- PLY `s`: R254, U1. -/
def execPly (s : State) : Result := placeholder 0x7A s
/-- TDC `i`: R254, U1. -/
def execTdc (s : State) : Result := placeholder 0x7B s
/-- JMP `(a,x)`: R254, U1. -/
def execJmpAbsXInd (_ : Word) (s : State) : Result := placeholder 0x7C s
/-- ADC `a,x`: R254, U1. -/
def execAdcAbsX (_ : Word) (s : State) : Result := placeholder 0x7D s
/-- ROR `a,x`: R254, U1. -/
def execRorAbsX (_ : Word) (s : State) : Result := placeholder 0x7E s
/-- ADC `al,x`: R254, U1. -/
def execAdcAbsLongX (_ : Long) (s : State) : Result := placeholder 0x7F s
/-- BRA `r`: R254, U1. -/
def execBra (_ : Byte) (s : State) : Result := placeholder 0x80 s
/-- STA `(d,x)`: R254, U1. -/
def execStaDirXInd (_ : Byte) (s : State) : Result := placeholder 0x81 s
/-- BRL `rl`: R254, U1. -/
def execBrl (_ : Word) (s : State) : Result := placeholder 0x82 s
/-- STA `d,s`: R254, U1. -/
def execStaStk (_ : Byte) (s : State) : Result := placeholder 0x83 s
/-- STY `d`: R254, U1. -/
def execStyDir (_ : Byte) (s : State) : Result := placeholder 0x84 s
/-- STA `d`: R254, U1. -/
def execStaDir (_ : Byte) (s : State) : Result := placeholder 0x85 s
/-- STX `d`: R254, U1. -/
def execStxDir (_ : Byte) (s : State) : Result := placeholder 0x86 s
/-- STA `[d]`: R254, U1. -/
def execStaDirIndLong (_ : Byte) (s : State) : Result := placeholder 0x87 s
/-- BIT `#m`: R254, U1. -/
def execBitImm (_ : Imm) (s : State) : Result := placeholder 0x89 s
/-- TXA `i`: R254, U1. -/
def execTxa (s : State) : Result := placeholder 0x8A s
/-- PHB `s`: R254, U1. -/
def execPhb (s : State) : Result := placeholder 0x8B s
/-- STY `a`: R254, U1. -/
def execStyAbs (_ : Word) (s : State) : Result := placeholder 0x8C s
/-- STX `a`: R254, U1. -/
def execStxAbs (_ : Word) (s : State) : Result := placeholder 0x8E s
/-- STA `al`: R254, U1. -/
def execStaAbsLong (_ : Long) (s : State) : Result := placeholder 0x8F s
/-- BCC `r`: R254, U1. -/
def execBcc (_ : Byte) (s : State) : Result := placeholder 0x90 s
/-- STA `(d),y`: R254, U1. -/
def execStaDirIndY (_ : Byte) (s : State) : Result := placeholder 0x91 s
/-- STA `(d)`: R254, U1. -/
def execStaDirInd (_ : Byte) (s : State) : Result := placeholder 0x92 s
/-- STA `(d,s),y`: R254, U1. -/
def execStaStkIndY (_ : Byte) (s : State) : Result := placeholder 0x93 s
/-- STY `d,x`: R254, U1. -/
def execStyDirX (_ : Byte) (s : State) : Result := placeholder 0x94 s
/-- STA `d,x`: R254, U1. -/
def execStaDirX (_ : Byte) (s : State) : Result := placeholder 0x95 s
/-- STX `d,y`: R254, U1. -/
def execStxDirY (_ : Byte) (s : State) : Result := placeholder 0x96 s
/-- STA `[d],y`: R254, U1. -/
def execStaDirIndLongY (_ : Byte) (s : State) : Result := placeholder 0x97 s
/-- TYA `i`: R254, U1. -/
def execTya (s : State) : Result := placeholder 0x98 s
/-- STA `a,y`: R254, U1. -/
def execStaAbsY (_ : Word) (s : State) : Result := placeholder 0x99 s
/-- TXS `i`: R254, U1. -/
def execTxs (s : State) : Result := placeholder 0x9A s
/-- TXY `i`: R254, U1. -/
def execTxy (s : State) : Result := placeholder 0x9B s
/-- STZ `a`: R254, U1. -/
def execStzAbs (_ : Word) (s : State) : Result := placeholder 0x9C s
/-- STA `a,x`: R254, U1. -/
def execStaAbsX (_ : Word) (s : State) : Result := placeholder 0x9D s
/-- STZ `a,x`: R254, U1. -/
def execStzAbsX (_ : Word) (s : State) : Result := placeholder 0x9E s
/-- STA `al,x`: R254, U1. -/
def execStaAbsLongX (_ : Long) (s : State) : Result := placeholder 0x9F s
/-- LDA `(d,x)`: R254, U1. -/
def execLdaDirXInd (_ : Byte) (s : State) : Result := placeholder 0xA1 s
/-- LDA `d,s`: R254, U1. -/
def execLdaStk (_ : Byte) (s : State) : Result := placeholder 0xA3 s
/-- LDY `d`: R254, U1. -/
def execLdyDir (_ : Byte) (s : State) : Result := placeholder 0xA4 s
/-- LDA `d`: R254, U1. -/
def execLdaDir (_ : Byte) (s : State) : Result := placeholder 0xA5 s
/-- LDX `d`: R254, U1. -/
def execLdxDir (_ : Byte) (s : State) : Result := placeholder 0xA6 s
/-- LDA `[d]`: R254, U1. -/
def execLdaDirIndLong (_ : Byte) (s : State) : Result := placeholder 0xA7 s
/-- TAY `i`: R254, U1. -/
def execTay (s : State) : Result := placeholder 0xA8 s
/-- PLB `s`: R254, U1. -/
def execPlb (s : State) : Result := placeholder 0xAB s
/-- LDY `a`: R254, U1. -/
def execLdyAbs (_ : Word) (s : State) : Result := placeholder 0xAC s
/-- LDA `a`: R254, U1. -/
def execLdaAbs (_ : Word) (s : State) : Result := placeholder 0xAD s
/-- LDX `a`: R254, U1. -/
def execLdxAbs (_ : Word) (s : State) : Result := placeholder 0xAE s
/-- LDA `al`: R254, U1. -/
def execLdaAbsLong (_ : Long) (s : State) : Result := placeholder 0xAF s
/-- BCS `r`: R254, U1. -/
def execBcs (_ : Byte) (s : State) : Result := placeholder 0xB0 s
/-- LDA `(d),y`: R254, U1. -/
def execLdaDirIndY (_ : Byte) (s : State) : Result := placeholder 0xB1 s
/-- LDA `(d)`: R254, U1. -/
def execLdaDirInd (_ : Byte) (s : State) : Result := placeholder 0xB2 s
/-- LDA `(d,s),y`: R254, U1. -/
def execLdaStkIndY (_ : Byte) (s : State) : Result := placeholder 0xB3 s
/-- LDY `d,x`: R254, U1. -/
def execLdyDirX (_ : Byte) (s : State) : Result := placeholder 0xB4 s
/-- LDA `d,x`: R254, U1. -/
def execLdaDirX (_ : Byte) (s : State) : Result := placeholder 0xB5 s
/-- LDX `d,y`: R254, U1. -/
def execLdxDirY (_ : Byte) (s : State) : Result := placeholder 0xB6 s
/-- LDA `[d],y`: R254, U1. -/
def execLdaDirIndLongY (_ : Byte) (s : State) : Result := placeholder 0xB7 s
/-- CLV `i`: R254, U1. -/
def execClv (s : State) : Result := placeholder 0xB8 s
/-- LDA `a,y`: R254, U1. -/
def execLdaAbsY (_ : Word) (s : State) : Result := placeholder 0xB9 s
/-- TSX `i`: R254, U1. -/
def execTsx (s : State) : Result := placeholder 0xBA s
/-- TYX `i`: R254, U1. -/
def execTyx (s : State) : Result := placeholder 0xBB s
/-- LDY `a,x`: R254, U1. -/
def execLdyAbsX (_ : Word) (s : State) : Result := placeholder 0xBC s
/-- LDA `a,x`: R254, U1. -/
def execLdaAbsX (_ : Word) (s : State) : Result := placeholder 0xBD s
/-- LDX `a,y`: R254, U1. -/
def execLdxAbsY (_ : Word) (s : State) : Result := placeholder 0xBE s
/-- LDA `al,x`: R254, U1. -/
def execLdaAbsLongX (_ : Long) (s : State) : Result := placeholder 0xBF s
/-- CPY `#x`: R254, U1. -/
def execCpyImm (_ : Imm) (s : State) : Result := placeholder 0xC0 s
/-- CMP `(d,x)`: R254, U1. -/
def execCmpDirXInd (_ : Byte) (s : State) : Result := placeholder 0xC1 s
/-- CMP `d,s`: R254, U1. -/
def execCmpStk (_ : Byte) (s : State) : Result := placeholder 0xC3 s
/-- CPY `d`: R254, U1. -/
def execCpyDir (_ : Byte) (s : State) : Result := placeholder 0xC4 s
/-- CMP `d`: R254, U1. -/
def execCmpDir (_ : Byte) (s : State) : Result := placeholder 0xC5 s
/-- DEC `d`: R254, U1. -/
def execDecDir (_ : Byte) (s : State) : Result := placeholder 0xC6 s
/-- CMP `[d]`: R254, U1. -/
def execCmpDirIndLong (_ : Byte) (s : State) : Result := placeholder 0xC7 s
/-- CMP `#m`: R254, U1. -/
def execCmpImm (_ : Imm) (s : State) : Result := placeholder 0xC9 s
/-- CPY `a`: R254, U1. -/
def execCpyAbs (_ : Word) (s : State) : Result := placeholder 0xCC s
/-- CMP `a`: R254, U1. -/
def execCmpAbs (_ : Word) (s : State) : Result := placeholder 0xCD s
/-- DEC `a`: R254, U1. -/
def execDecAbs (_ : Word) (s : State) : Result := placeholder 0xCE s
/-- CMP `al`: R254, U1. -/
def execCmpAbsLong (_ : Long) (s : State) : Result := placeholder 0xCF s
/-- BNE `r`: R254, U1. -/
def execBne (_ : Byte) (s : State) : Result := placeholder 0xD0 s
/-- CMP `(d),y`: R254, U1. -/
def execCmpDirIndY (_ : Byte) (s : State) : Result := placeholder 0xD1 s
/-- CMP `(d)`: R254, U1. -/
def execCmpDirInd (_ : Byte) (s : State) : Result := placeholder 0xD2 s
/-- CMP `(d,s),y`: R254, U1. -/
def execCmpStkIndY (_ : Byte) (s : State) : Result := placeholder 0xD3 s
/-- PEI `s`: R254, U1. -/
def execPei (_ : Byte) (s : State) : Result := placeholder 0xD4 s
/-- CMP `d,x`: R254, U1. -/
def execCmpDirX (_ : Byte) (s : State) : Result := placeholder 0xD5 s
/-- DEC `d,x`: R254, U1. -/
def execDecDirX (_ : Byte) (s : State) : Result := placeholder 0xD6 s
/-- CMP `[d],y`: R254, U1. -/
def execCmpDirIndLongY (_ : Byte) (s : State) : Result := placeholder 0xD7 s
/-- CLD `i`: R254, U1. -/
def execCld (s : State) : Result := placeholder 0xD8 s
/-- CMP `a,y`: R254, U1. -/
def execCmpAbsY (_ : Word) (s : State) : Result := placeholder 0xD9 s
/-- PHX `s`: R254, U1. -/
def execPhx (s : State) : Result := placeholder 0xDA s
/-- JMP `[a]`: R254, U1. -/
def execJmpAbsIndLong (_ : Word) (s : State) : Result := placeholder 0xDC s
/-- CMP `a,x`: R254, U1. -/
def execCmpAbsX (_ : Word) (s : State) : Result := placeholder 0xDD s
/-- DEC `a,x`: R254, U1. -/
def execDecAbsX (_ : Word) (s : State) : Result := placeholder 0xDE s
/-- CMP `al,x`: R254, U1. -/
def execCmpAbsLongX (_ : Long) (s : State) : Result := placeholder 0xDF s
/-- CPX `#x`: R254, U1. -/
def execCpxImm (_ : Imm) (s : State) : Result := placeholder 0xE0 s
/-- SBC `(d,x)`: R254, U1. -/
def execSbcDirXInd (_ : Byte) (s : State) : Result := placeholder 0xE1 s
/-- SBC `d,s`: R254, U1. -/
def execSbcStk (_ : Byte) (s : State) : Result := placeholder 0xE3 s
/-- CPX `d`: R254, U1. -/
def execCpxDir (_ : Byte) (s : State) : Result := placeholder 0xE4 s
/-- SBC `d`: R254, U1. -/
def execSbcDir (_ : Byte) (s : State) : Result := placeholder 0xE5 s
/-- INC `d`: R254, U1. -/
def execIncDir (_ : Byte) (s : State) : Result := placeholder 0xE6 s
/-- SBC `[d]`: R254, U1. -/
def execSbcDirIndLong (_ : Byte) (s : State) : Result := placeholder 0xE7 s
/-- SBC `#m`: R254, U1. -/
def execSbcImm (_ : Imm) (s : State) : Result := placeholder 0xE9 s
/-- XBA `i`: R254, U1. -/
def execXba (s : State) : Result := placeholder 0xEB s
/-- CPX `a`: R254, U1. -/
def execCpxAbs (_ : Word) (s : State) : Result := placeholder 0xEC s
/-- SBC `a`: R254, U1. -/
def execSbcAbs (_ : Word) (s : State) : Result := placeholder 0xED s
/-- INC `a`: R254, U1. -/
def execIncAbs (_ : Word) (s : State) : Result := placeholder 0xEE s
/-- SBC `al`: R254, U1. -/
def execSbcAbsLong (_ : Long) (s : State) : Result := placeholder 0xEF s
/-- BEQ `r`: R254, U1. -/
def execBeq (_ : Byte) (s : State) : Result := placeholder 0xF0 s
/-- SBC `(d),y`: R254, U1. -/
def execSbcDirIndY (_ : Byte) (s : State) : Result := placeholder 0xF1 s
/-- SBC `(d)`: R254, U1. -/
def execSbcDirInd (_ : Byte) (s : State) : Result := placeholder 0xF2 s
/-- SBC `(d,s),y`: R254, U1. -/
def execSbcStkIndY (_ : Byte) (s : State) : Result := placeholder 0xF3 s
/-- PEA `s`: R254, U1. -/
def execPea (_ : Word) (s : State) : Result := placeholder 0xF4 s
/-- SBC `d,x`: R254, U1. -/
def execSbcDirX (_ : Byte) (s : State) : Result := placeholder 0xF5 s
/-- INC `d,x`: R254, U1. -/
def execIncDirX (_ : Byte) (s : State) : Result := placeholder 0xF6 s
/-- SBC `[d],y`: R254, U1. -/
def execSbcDirIndLongY (_ : Byte) (s : State) : Result := placeholder 0xF7 s
/-- SED `i`: R254, U1. -/
def execSed (s : State) : Result := placeholder 0xF8 s
/-- SBC `a,y`: R254, U1. -/
def execSbcAbsY (_ : Word) (s : State) : Result := placeholder 0xF9 s
/-- PLX `s`: R254, U1. -/
def execPlx (s : State) : Result := placeholder 0xFA s
/-- JSR `(a,x)`: R254, U1. -/
def execJsrAbsXInd (_ : Word) (s : State) : Result := placeholder 0xFC s
/-- SBC `a,x`: R254, U1. -/
def execSbcAbsX (_ : Word) (s : State) : Result := placeholder 0xFD s
/-- INC `a,x`: R254, U1. -/
def execIncAbsX (_ : Word) (s : State) : Result := placeholder 0xFE s
/-- SBC `al,x`: R254, U1. -/
def execSbcAbsLongX (_ : Long) (s : State) : Result := placeholder 0xFF s

end Sys2Proof.Machine
end

