-- ==== Sys2Proof/Machine/System.lean ====
section
/-!
DEFINITION. Machine/System.lean: NOP, STP, WAI (spec/46_system.md). STP and WAI end in the hold: `ic = 2`, from which
every later clock re-enters the same row and only reset leaves (R147, R251, R252; log 25).
-/

namespace Sys2Proof.Machine

/-- R250: nothing. -/
def opNop (s : State) : State := s

/-- NOP (R250). -/
def execNop (s : State) : Result := withHandler 0xEA (fun t => .next (implied2 0xEA opNop t)) s

/-- STP (R251). -/
def execStp (s : State) : Result := withHandler 0xDB (fun t => .next (halt3 0xDB t)) s

/-- WAI (R252). -/
def execWai (s : State) : Result := withHandler 0xCB (fun t => .next (halt3 0xCB t)) s

end Sys2Proof.Machine
end

