-- ==== Sys2Proof/Machine/Dispatch.lean ====
section
/-!
DEFINITION. Machine/Dispatch.lean: one arm per constructor of Instr, each one call of the instruction's meaning.
-/

namespace Sys2Proof.Machine

def exec (i : Instr) (s : State) : Host.Outcome State Fault Refusal :=
  match i with
  | .brk b => Sys2Proof.Machine.execBrk b s
  | .oraDirXInd b => Sys2Proof.Machine.execOraDirXInd b s
  | .cop b => Sys2Proof.Machine.execCop b s
  | .oraStk b => Sys2Proof.Machine.execOraStk b s
  | .tsbDir b => Sys2Proof.Machine.execTsbDir b s
  | .oraDir b => Sys2Proof.Machine.execOraDir b s
  | .aslDir b => Sys2Proof.Machine.execAslDir b s
  | .oraDirIndLong b => Sys2Proof.Machine.execOraDirIndLong b s
  | .php => Sys2Proof.Machine.execPhp s
  | .oraImm imm => Sys2Proof.Machine.execOraImm imm s
  | .aslAcc => Sys2Proof.Machine.execAslAcc s
  | .phd => Sys2Proof.Machine.execPhd s
  | .tsbAbs w => Sys2Proof.Machine.execTsbAbs w s
  | .oraAbs w => Sys2Proof.Machine.execOraAbs w s
  | .aslAbs w => Sys2Proof.Machine.execAslAbs w s
  | .oraAbsLong l => Sys2Proof.Machine.execOraAbsLong l s
  | .bpl b => Sys2Proof.Machine.execBpl b s
  | .oraDirIndY b => Sys2Proof.Machine.execOraDirIndY b s
  | .oraDirInd b => Sys2Proof.Machine.execOraDirInd b s
  | .oraStkIndY b => Sys2Proof.Machine.execOraStkIndY b s
  | .trbDir b => Sys2Proof.Machine.execTrbDir b s
  | .oraDirX b => Sys2Proof.Machine.execOraDirX b s
  | .aslDirX b => Sys2Proof.Machine.execAslDirX b s
  | .oraDirIndLongY b => Sys2Proof.Machine.execOraDirIndLongY b s
  | .clc => Sys2Proof.Machine.execClc s
  | .oraAbsY w => Sys2Proof.Machine.execOraAbsY w s
  | .incAcc => Sys2Proof.Machine.execIncAcc s
  | .tcs => Sys2Proof.Machine.execTcs s
  | .trbAbs w => Sys2Proof.Machine.execTrbAbs w s
  | .oraAbsX w => Sys2Proof.Machine.execOraAbsX w s
  | .aslAbsX w => Sys2Proof.Machine.execAslAbsX w s
  | .oraAbsLongX l => Sys2Proof.Machine.execOraAbsLongX l s
  | .jsrAbs w => Sys2Proof.Machine.execJsrAbs w s
  | .andDirXInd b => Sys2Proof.Machine.execAndDirXInd b s
  | .jslAbsLong l => Sys2Proof.Machine.execJslAbsLong l s
  | .andStk b => Sys2Proof.Machine.execAndStk b s
  | .bitDir b => Sys2Proof.Machine.execBitDir b s
  | .andDir b => Sys2Proof.Machine.execAndDir b s
  | .rolDir b => Sys2Proof.Machine.execRolDir b s
  | .andDirIndLong b => Sys2Proof.Machine.execAndDirIndLong b s
  | .plp => Sys2Proof.Machine.execPlp s
  | .andImm imm => Sys2Proof.Machine.execAndImm imm s
  | .rolAcc => Sys2Proof.Machine.execRolAcc s
  | .pld => Sys2Proof.Machine.execPld s
  | .bitAbs w => Sys2Proof.Machine.execBitAbs w s
  | .andAbs w => Sys2Proof.Machine.execAndAbs w s
  | .rolAbs w => Sys2Proof.Machine.execRolAbs w s
  | .andAbsLong l => Sys2Proof.Machine.execAndAbsLong l s
  | .bmi b => Sys2Proof.Machine.execBmi b s
  | .andDirIndY b => Sys2Proof.Machine.execAndDirIndY b s
  | .andDirInd b => Sys2Proof.Machine.execAndDirInd b s
  | .andStkIndY b => Sys2Proof.Machine.execAndStkIndY b s
  | .bitDirX b => Sys2Proof.Machine.execBitDirX b s
  | .andDirX b => Sys2Proof.Machine.execAndDirX b s
  | .rolDirX b => Sys2Proof.Machine.execRolDirX b s
  | .andDirIndLongY b => Sys2Proof.Machine.execAndDirIndLongY b s
  | .sec => Sys2Proof.Machine.execSec s
  | .andAbsY w => Sys2Proof.Machine.execAndAbsY w s
  | .decAcc => Sys2Proof.Machine.execDecAcc s
  | .tsc => Sys2Proof.Machine.execTsc s
  | .bitAbsX w => Sys2Proof.Machine.execBitAbsX w s
  | .andAbsX w => Sys2Proof.Machine.execAndAbsX w s
  | .rolAbsX w => Sys2Proof.Machine.execRolAbsX w s
  | .andAbsLongX l => Sys2Proof.Machine.execAndAbsLongX l s
  | .rti => Sys2Proof.Machine.execRti s
  | .eorDirXInd b => Sys2Proof.Machine.execEorDirXInd b s
  | .wdm b => Sys2Proof.Machine.execWdm b s
  | .eorStk b => Sys2Proof.Machine.execEorStk b s
  | .mvp w => Sys2Proof.Machine.execMvp w s
  | .eorDir b => Sys2Proof.Machine.execEorDir b s
  | .lsrDir b => Sys2Proof.Machine.execLsrDir b s
  | .eorDirIndLong b => Sys2Proof.Machine.execEorDirIndLong b s
  | .pha => Sys2Proof.Machine.execPha s
  | .eorImm imm => Sys2Proof.Machine.execEorImm imm s
  | .lsrAcc => Sys2Proof.Machine.execLsrAcc s
  | .phk => Sys2Proof.Machine.execPhk s
  | .jmpAbs addr => Sys2Proof.Machine.execJmpAbs addr s
  | .eorAbs w => Sys2Proof.Machine.execEorAbs w s
  | .lsrAbs w => Sys2Proof.Machine.execLsrAbs w s
  | .eorAbsLong l => Sys2Proof.Machine.execEorAbsLong l s
  | .bvc b => Sys2Proof.Machine.execBvc b s
  | .eorDirIndY b => Sys2Proof.Machine.execEorDirIndY b s
  | .eorDirInd b => Sys2Proof.Machine.execEorDirInd b s
  | .eorStkIndY b => Sys2Proof.Machine.execEorStkIndY b s
  | .mvn w => Sys2Proof.Machine.execMvn w s
  | .eorDirX b => Sys2Proof.Machine.execEorDirX b s
  | .lsrDirX b => Sys2Proof.Machine.execLsrDirX b s
  | .eorDirIndLongY b => Sys2Proof.Machine.execEorDirIndLongY b s
  | .cli => Sys2Proof.Machine.execCli s
  | .eorAbsY w => Sys2Proof.Machine.execEorAbsY w s
  | .phy => Sys2Proof.Machine.execPhy s
  | .tcd => Sys2Proof.Machine.execTcd s
  | .jmpAbsLong addr => Sys2Proof.Machine.execJmpAbsLong addr s
  | .eorAbsX w => Sys2Proof.Machine.execEorAbsX w s
  | .lsrAbsX w => Sys2Proof.Machine.execLsrAbsX w s
  | .eorAbsLongX l => Sys2Proof.Machine.execEorAbsLongX l s
  | .rts => Sys2Proof.Machine.execRts s
  | .adcDirXInd b => Sys2Proof.Machine.execAdcDirXInd b s
  | .per w => Sys2Proof.Machine.execPer w s
  | .adcStk b => Sys2Proof.Machine.execAdcStk b s
  | .stzDir b => Sys2Proof.Machine.execStzDir b s
  | .adcDir b => Sys2Proof.Machine.execAdcDir b s
  | .rorDir b => Sys2Proof.Machine.execRorDir b s
  | .adcDirIndLong b => Sys2Proof.Machine.execAdcDirIndLong b s
  | .pla => Sys2Proof.Machine.execPla s
  | .adcImm imm => Sys2Proof.Machine.execAdcImm imm s
  | .rorAcc => Sys2Proof.Machine.execRorAcc s
  | .rtl => Sys2Proof.Machine.execRtl s
  | .jmpAbsInd w => Sys2Proof.Machine.execJmpAbsInd w s
  | .adcAbs w => Sys2Proof.Machine.execAdcAbs w s
  | .rorAbs w => Sys2Proof.Machine.execRorAbs w s
  | .adcAbsLong l => Sys2Proof.Machine.execAdcAbsLong l s
  | .bvs b => Sys2Proof.Machine.execBvs b s
  | .adcDirIndY b => Sys2Proof.Machine.execAdcDirIndY b s
  | .adcDirInd b => Sys2Proof.Machine.execAdcDirInd b s
  | .adcStkIndY b => Sys2Proof.Machine.execAdcStkIndY b s
  | .stzDirX b => Sys2Proof.Machine.execStzDirX b s
  | .adcDirX b => Sys2Proof.Machine.execAdcDirX b s
  | .rorDirX b => Sys2Proof.Machine.execRorDirX b s
  | .adcDirIndLongY b => Sys2Proof.Machine.execAdcDirIndLongY b s
  | .sei => Sys2Proof.Machine.execSei s
  | .adcAbsY w => Sys2Proof.Machine.execAdcAbsY w s
  | .ply => Sys2Proof.Machine.execPly s
  | .tdc => Sys2Proof.Machine.execTdc s
  | .jmpAbsXInd w => Sys2Proof.Machine.execJmpAbsXInd w s
  | .adcAbsX w => Sys2Proof.Machine.execAdcAbsX w s
  | .rorAbsX w => Sys2Proof.Machine.execRorAbsX w s
  | .adcAbsLongX l => Sys2Proof.Machine.execAdcAbsLongX l s
  | .bra b => Sys2Proof.Machine.execBra b s
  | .staDirXInd b => Sys2Proof.Machine.execStaDirXInd b s
  | .brl w => Sys2Proof.Machine.execBrl w s
  | .staStk b => Sys2Proof.Machine.execStaStk b s
  | .styDir b => Sys2Proof.Machine.execStyDir b s
  | .staDir b => Sys2Proof.Machine.execStaDir b s
  | .stxDir b => Sys2Proof.Machine.execStxDir b s
  | .staDirIndLong b => Sys2Proof.Machine.execStaDirIndLong b s
  | .dey => Sys2Proof.Machine.execDey s
  | .bitImm imm => Sys2Proof.Machine.execBitImm imm s
  | .txa => Sys2Proof.Machine.execTxa s
  | .phb => Sys2Proof.Machine.execPhb s
  | .styAbs w => Sys2Proof.Machine.execStyAbs w s
  | .staAbs addr => Sys2Proof.Machine.execStaAbs addr s
  | .stxAbs w => Sys2Proof.Machine.execStxAbs w s
  | .staAbsLong l => Sys2Proof.Machine.execStaAbsLong l s
  | .bcc b => Sys2Proof.Machine.execBcc b s
  | .staDirIndY b => Sys2Proof.Machine.execStaDirIndY b s
  | .staDirInd b => Sys2Proof.Machine.execStaDirInd b s
  | .staStkIndY b => Sys2Proof.Machine.execStaStkIndY b s
  | .styDirX b => Sys2Proof.Machine.execStyDirX b s
  | .staDirX b => Sys2Proof.Machine.execStaDirX b s
  | .stxDirY b => Sys2Proof.Machine.execStxDirY b s
  | .staDirIndLongY b => Sys2Proof.Machine.execStaDirIndLongY b s
  | .tya => Sys2Proof.Machine.execTya s
  | .staAbsY w => Sys2Proof.Machine.execStaAbsY w s
  | .txs => Sys2Proof.Machine.execTxs s
  | .txy => Sys2Proof.Machine.execTxy s
  | .stzAbs w => Sys2Proof.Machine.execStzAbs w s
  | .staAbsX w => Sys2Proof.Machine.execStaAbsX w s
  | .stzAbsX w => Sys2Proof.Machine.execStzAbsX w s
  | .staAbsLongX l => Sys2Proof.Machine.execStaAbsLongX l s
  | .ldyImm imm => Sys2Proof.Machine.execLdyImm imm s
  | .ldaDirXInd b => Sys2Proof.Machine.execLdaDirXInd b s
  | .ldxImm imm => Sys2Proof.Machine.execLdxImm imm s
  | .ldaStk b => Sys2Proof.Machine.execLdaStk b s
  | .ldyDir b => Sys2Proof.Machine.execLdyDir b s
  | .ldaDir b => Sys2Proof.Machine.execLdaDir b s
  | .ldxDir b => Sys2Proof.Machine.execLdxDir b s
  | .ldaDirIndLong b => Sys2Proof.Machine.execLdaDirIndLong b s
  | .tay => Sys2Proof.Machine.execTay s
  | .ldaImm imm => Sys2Proof.Machine.execLdaImm imm s
  | .tax => Sys2Proof.Machine.execTax s
  | .plb => Sys2Proof.Machine.execPlb s
  | .ldyAbs w => Sys2Proof.Machine.execLdyAbs w s
  | .ldaAbs w => Sys2Proof.Machine.execLdaAbs w s
  | .ldxAbs w => Sys2Proof.Machine.execLdxAbs w s
  | .ldaAbsLong l => Sys2Proof.Machine.execLdaAbsLong l s
  | .bcs b => Sys2Proof.Machine.execBcs b s
  | .ldaDirIndY b => Sys2Proof.Machine.execLdaDirIndY b s
  | .ldaDirInd b => Sys2Proof.Machine.execLdaDirInd b s
  | .ldaStkIndY b => Sys2Proof.Machine.execLdaStkIndY b s
  | .ldyDirX b => Sys2Proof.Machine.execLdyDirX b s
  | .ldaDirX b => Sys2Proof.Machine.execLdaDirX b s
  | .ldxDirY b => Sys2Proof.Machine.execLdxDirY b s
  | .ldaDirIndLongY b => Sys2Proof.Machine.execLdaDirIndLongY b s
  | .clv => Sys2Proof.Machine.execClv s
  | .ldaAbsY w => Sys2Proof.Machine.execLdaAbsY w s
  | .tsx => Sys2Proof.Machine.execTsx s
  | .tyx => Sys2Proof.Machine.execTyx s
  | .ldyAbsX w => Sys2Proof.Machine.execLdyAbsX w s
  | .ldaAbsX w => Sys2Proof.Machine.execLdaAbsX w s
  | .ldxAbsY w => Sys2Proof.Machine.execLdxAbsY w s
  | .ldaAbsLongX l => Sys2Proof.Machine.execLdaAbsLongX l s
  | .cpyImm imm => Sys2Proof.Machine.execCpyImm imm s
  | .cmpDirXInd b => Sys2Proof.Machine.execCmpDirXInd b s
  | .rep mask => Sys2Proof.Machine.execRep mask s
  | .cmpStk b => Sys2Proof.Machine.execCmpStk b s
  | .cpyDir b => Sys2Proof.Machine.execCpyDir b s
  | .cmpDir b => Sys2Proof.Machine.execCmpDir b s
  | .decDir b => Sys2Proof.Machine.execDecDir b s
  | .cmpDirIndLong b => Sys2Proof.Machine.execCmpDirIndLong b s
  | .iny => Sys2Proof.Machine.execIny s
  | .cmpImm imm => Sys2Proof.Machine.execCmpImm imm s
  | .dex => Sys2Proof.Machine.execDex s
  | .wai => Sys2Proof.Machine.execWai s
  | .cpyAbs w => Sys2Proof.Machine.execCpyAbs w s
  | .cmpAbs w => Sys2Proof.Machine.execCmpAbs w s
  | .decAbs w => Sys2Proof.Machine.execDecAbs w s
  | .cmpAbsLong l => Sys2Proof.Machine.execCmpAbsLong l s
  | .bne b => Sys2Proof.Machine.execBne b s
  | .cmpDirIndY b => Sys2Proof.Machine.execCmpDirIndY b s
  | .cmpDirInd b => Sys2Proof.Machine.execCmpDirInd b s
  | .cmpStkIndY b => Sys2Proof.Machine.execCmpStkIndY b s
  | .pei b => Sys2Proof.Machine.execPei b s
  | .cmpDirX b => Sys2Proof.Machine.execCmpDirX b s
  | .decDirX b => Sys2Proof.Machine.execDecDirX b s
  | .cmpDirIndLongY b => Sys2Proof.Machine.execCmpDirIndLongY b s
  | .cld => Sys2Proof.Machine.execCld s
  | .cmpAbsY w => Sys2Proof.Machine.execCmpAbsY w s
  | .phx => Sys2Proof.Machine.execPhx s
  | .stp => Sys2Proof.Machine.execStp s
  | .jmpAbsIndLong w => Sys2Proof.Machine.execJmpAbsIndLong w s
  | .cmpAbsX w => Sys2Proof.Machine.execCmpAbsX w s
  | .decAbsX w => Sys2Proof.Machine.execDecAbsX w s
  | .cmpAbsLongX l => Sys2Proof.Machine.execCmpAbsLongX l s
  | .cpxImm imm => Sys2Proof.Machine.execCpxImm imm s
  | .sbcDirXInd b => Sys2Proof.Machine.execSbcDirXInd b s
  | .sep mask => Sys2Proof.Machine.execSep mask s
  | .sbcStk b => Sys2Proof.Machine.execSbcStk b s
  | .cpxDir b => Sys2Proof.Machine.execCpxDir b s
  | .sbcDir b => Sys2Proof.Machine.execSbcDir b s
  | .incDir b => Sys2Proof.Machine.execIncDir b s
  | .sbcDirIndLong b => Sys2Proof.Machine.execSbcDirIndLong b s
  | .inx => Sys2Proof.Machine.execInx s
  | .sbcImm imm => Sys2Proof.Machine.execSbcImm imm s
  | .nop => Sys2Proof.Machine.execNop s
  | .xba => Sys2Proof.Machine.execXba s
  | .cpxAbs w => Sys2Proof.Machine.execCpxAbs w s
  | .sbcAbs w => Sys2Proof.Machine.execSbcAbs w s
  | .incAbs w => Sys2Proof.Machine.execIncAbs w s
  | .sbcAbsLong l => Sys2Proof.Machine.execSbcAbsLong l s
  | .beq b => Sys2Proof.Machine.execBeq b s
  | .sbcDirIndY b => Sys2Proof.Machine.execSbcDirIndY b s
  | .sbcDirInd b => Sys2Proof.Machine.execSbcDirInd b s
  | .sbcStkIndY b => Sys2Proof.Machine.execSbcStkIndY b s
  | .pea w => Sys2Proof.Machine.execPea w s
  | .sbcDirX b => Sys2Proof.Machine.execSbcDirX b s
  | .incDirX b => Sys2Proof.Machine.execIncDirX b s
  | .sbcDirIndLongY b => Sys2Proof.Machine.execSbcDirIndLongY b s
  | .sed => Sys2Proof.Machine.execSed s
  | .sbcAbsY w => Sys2Proof.Machine.execSbcAbsY w s
  | .plx => Sys2Proof.Machine.execPlx s
  | .xce => Sys2Proof.Machine.execXce s
  | .jsrAbsXInd w => Sys2Proof.Machine.execJsrAbsXInd w s
  | .sbcAbsX w => Sys2Proof.Machine.execSbcAbsX w s
  | .incAbsX w => Sys2Proof.Machine.execIncAbsX w s
  | .sbcAbsLongX l => Sys2Proof.Machine.execSbcAbsLongX l s

end Sys2Proof.Machine
end

