-- ==== Sys2Proof/Machine/Engine.lean ====
section
/-!
DEFINITION. Machine/Engine.lean: the cycle level (spec/40_cycle_engine.md): `Clock()` with its four cases, the dispatch on
`IR`, the handlers keyed by `ic`, and one cycle, which is `Clock()`, the bus tick and the host's move (spec/20_memory.md
R72). The handlers are the rows of Machine/Ops.lean, their operand byte being `data_in`.
-/

namespace Sys2Proof.Machine

/-- A handler: the micro-step of the row that `ic` names; `none` where the pattern has no such row (R136). -/
abbrev Handler := State → Option State

/-- IMPLIED2 (R140). -/
def implied2Rows (op : State → State) : Handler := fun s =>
  if s.seq.ic = 0 then some (openInternal s)
  else if s.seq.ic = 1 then some (impliedLast op s)
  else none

/-- IMMP3 (R141). -/
def immp3Rows (op : Byte → State → State) : Handler := fun s =>
  if s.seq.ic = 0 then some (openOperand s)
  else if s.seq.ic = 1 then some (maskLatch s.seq.dataIn s)
  else if s.seq.ic = 2 then some (maskLast op s)
  else none

/-- IMM with width flag `F` (R143), sampled where the paths divide (R139). -/
def immRows (flag : Status → Bool) (op8 : Byte → State → State) (op16 : Word → State → State) : Handler := fun s =>
  if s.seq.ic = 0 then some (openOperand s)
  else if s.seq.ic = 1 then
    (if flag s.regs.p then some (immLast8 op8 s.seq.dataIn s) else some (operandLow s.seq.dataIn s))
  else if s.seq.ic = 2 then some (immLast16 op16 s.seq.dataIn s)
  else none

/-- JMPABS (R144). -/
def jmpAbsRows : Handler := fun s =>
  if s.seq.ic = 0 then some (openOperand s)
  else if s.seq.ic = 1 then some (operandLow s.seq.dataIn s)
  else if s.seq.ic = 2 then some (jumpAbsLast s.seq.dataIn s)
  else none

/-- JMPLONG (R145). -/
def jmpLongRows : Handler := fun s =>
  if s.seq.ic = 0 then some (openOperand s)
  else if s.seq.ic = 1 then some (operandLow s.seq.dataIn s)
  else if s.seq.ic = 2 then some (operandHigh s.seq.dataIn s)
  else if s.seq.ic = 3 then some (jumpLongLast s.seq.dataIn s)
  else none

/-- ABSWRITE (R146). -/
def absWriteRows : Handler := fun s =>
  if s.seq.ic = 0 then some (openOperand s)
  else if s.seq.ic = 1 then some (operandLow s.seq.dataIn s)
  else if s.seq.ic = 2 then some (storeLow s.seq.dataIn s)
  else if s.seq.ic = 3 then (if s.regs.p.m then some (closeInstr s) else some (storeHigh s))
  else if s.seq.ic = 4 then some (closeInstr s)
  else none

/-- HALT3 (R147). -/
def halt3Rows : Handler := fun s =>
  if s.seq.ic = 0 then some (openInternal s)
  else if s.seq.ic = 1 then some (haltHold s)
  else if s.seq.ic = 2 then some (haltHold s)
  else none

/-- The handlers the spec defines (R106); `corner` is `ADC_CARRY_CORNER`. -/
def rowsOf (corner : Bool) (ir : Byte) : Option Handler :=
  if ir = 0x18 then some (implied2Rows opClc)
  else if ir = 0x38 then some (implied2Rows opSec)
  else if ir = 0xFB then some (implied2Rows opXce)
  else if ir = 0xC2 then some (immp3Rows opRep)
  else if ir = 0xE2 then some (immp3Rows opSep)
  else if ir = 0x69 then some (immRows Status.m (opAdc8 corner) (opAdc16 corner))
  else if ir = 0xA9 then some (immRows Status.m opLda8 opLda16)
  else if ir = 0xA2 then some (immRows Status.x opLdx8 opLdx16)
  else if ir = 0xA0 then some (immRows Status.x opLdy8 opLdy16)
  else if ir = 0x8D then some absWriteRows
  else if ir = 0x4C then some jmpAbsRows
  else if ir = 0x5C then some jmpLongRows
  else if ir = 0xE8 then some (implied2Rows opInx)
  else if ir = 0xC8 then some (implied2Rows opIny)
  else if ir = 0xCA then some (implied2Rows opDex)
  else if ir = 0x88 then some (implied2Rows opDey)
  else if ir = 0xAA then some (implied2Rows opTax)
  else if ir = 0xEA then some (implied2Rows opNop)
  else if ir = 0xDB then some halt3Rows
  else if ir = 0xCB then some halt3Rows
  else none

/-- `OpcodeTable[IR].handler`: present for the opcodes of `IMPLEMENTED`, `none` for a null handler (R104, R106, R131). -/
def handlerOf (p : Config.Params) (ir : Byte) : Option Handler :=
  if p.implements ir then rowsOf p.adcCarryCorner ir else none

/-- A null handler at the cycle level, under the same treatment as the instruction level (R131, R254). -/
def nullHandler (t : Config.PlaceholderTreatment) (s : State) : Result :=
  match t with
  | .refuse => .refused (.unimplementedOpcode s.seq.ir s.regs.pc)
  | .stagnate => .next (stagnate s)

/-- Cases 3 and 4 of `Clock()`: the opcode is latched when `ic = 0`, and the handler of `IR` runs one micro-step
(R131, R134, R135). -/
def dispatchClock (s : State) : Result :=
  let s := if s.seq.ic = 0 then latchIr s.seq.dataIn s else s
  match handlerOf s.params s.seq.ir with
  | none => nullHandler placeholderTreatment s
  | some h =>
    match h s with
    | some t => .next t
    | none => .fault (.noMicroStep s.seq.ir s.seq.ic)

/-- `Clock()` (R131), run at the start of phase-high (R69): RESB low first (R132), then the release step (R133), which
has a meaning only after two low clocks (R305), then fetch or execution. -/
def clock (s : State) : Result :=
  let s := setPhi2 true s
  if s.pins.resb = false then .next (resetHold s)
  else if 0 < s.seq.rlc then
    (if 2 ≤ s.seq.rlc then .next (resetRelease s) else .refused .shortResetPulse)
  else dispatchClock s

/-- One PHI2 cycle: `Clock()`, the bus tick, and the host's move before the next `Clock()` (R72). -/
def cycle (s : State) : Result :=
  match clock s with
  | .next t => .next (hostMove (busTick t))
  | .fault r => .fault r
  | .refused r => .refused r

/-- `k` cycles. -/
def cycles : Nat → State → Result
  | 0, s => .next s
  | k + 1, s =>
    match cycle s with
    | .next t => cycles k t
    | .fault r => .fault r
    | .refused r => .refused r

/-- The number of clocks of an immediate instruction (R143, R315). -/
def immClocks : Imm → Nat
  | .b8 _ => 2
  | .w16 _ => 3

/-- The number of clocks an instruction takes from the latch of its opcode, `m` being `P.M` (R315): for STP and WAI the
three clocks that reach the hold; for an opcode whose handler the spec does not define, the one clock that finds none. -/
def instrClocks (m : Bool) : Instr → Nat
  | .clc | .sec | .xce | .inx | .iny | .dex | .dey | .tax | .nop => 2
  | .rep _ | .sep _ => 3
  | .adcImm imm | .ldaImm imm | .ldxImm imm | .ldyImm imm => immClocks imm
  | .staAbs _ => if m then 4 else 5
  | .jmpAbs _ => 3
  | .jmpAbsLong _ => 4
  | .stp | .wai => 3
  | _ => 1

end Sys2Proof.Machine
end

