-- ==== Sys2Proof/Machine/Load.lean ====
section
/-!
DEFINITION. Machine/Load.lean: the instruction boundary, and loading an instruction from outside the machine at the
place the next step fetches from (spec/70_reset_and_hazards.md R307; log 17).
-/

namespace Sys2Proof.Machine

/-- The engine is in FetchOpcode: RESB high, no reset under way, `ic = 0` (R130). -/
def atBoundary (s : State) : Bool := s.pins.resb && s.seq.rlc == 0 && s.seq.ic == 0

/-- The state at an instruction boundary at `PC`: FETCH_OPCODE driven, the opcode byte on `data_in`, RESB high with no
change scheduled (R26, R136). -/
def toBoundary (s : State) : State :=
  { s with
    seq := { s.seq with ic := 0, rlc := 0, dataIn := s.busByte s.regs.pc }
    pins := { s.pins with addressOut := s.regs.pc, ctl := .fetchOpcode, resb := true, phi2 := false }
    hostResb := [] }

/-- Four bytes of an instruction word loaded at the code addresses of `PC`, and the engine at the boundary there. -/
def loadWord (s : State) (nbits w : Nat) : State :=
  let at_ := codeAddr s.regs.pc
  let ds := loadByte s.devices (at_ 0) (tableByte nbits w 0)
  let ds := loadByte ds (at_ 1) (tableByte nbits w 1)
  let ds := loadByte ds (at_ 2) (tableByte nbits w 2)
  let ds := loadByte ds (at_ 3) (tableByte nbits w 3)
  toBoundary { s with devices := ds }

end Sys2Proof.Machine
end

