-- ==== Sys2Proof/Machine/Step.lean ====
section
/-!
DEFINITION. Machine/Step.lean: one step. At an instruction boundary it runs the whole instruction on the bus, as long
as no reset begins inside it; everywhere else (reset held, reset released, an instruction in progress, the hold of STP
or WAI) it is one cycle of the engine (spec/00_scope.md R11, spec/40_cycle_engine.md R130, R131; log 1).
-/

namespace Sys2Proof.Machine

/-- One step of the machine. -/
def step (s : State) : Host.Outcome State Fault Refusal :=
  if atBoundary s then
    let i := fetchInstr s
    let k := instrClocks s.regs.p.m i
    if quiet k s then
      match exec i s with
      | .next t => .next (hostMoves k t)
      | .fault r => .fault r
      | .refused r => .refused r
    else cycle s
  else cycle s

/-- The state with an instruction's bytes loaded where the next step fetches, and the engine at an instruction boundary
there (log 17). -/
def State.withFetchWord (s : State) (nbits w : Nat) : State := loadWord s nbits w

end Sys2Proof.Machine
end

