-- ==== Sys2Proof/Safety.lean ====
section
/-!
DEFINITION. Safety.lean: the terms claims use: the four engine states (spec/40_cycle_engine.md R130), the two holds
(spec/46_system.md R251, R252), what completing an instruction means (R136), what an instruction leaves alone, and the
invariant that every step keeps (spec/10_state.md R22, R31 to R34, R41; spec/20_memory.md R62).
-/

namespace Sys2Proof.Machine

/-- The engine's states (R130). -/
inductive EngineState where
  | awaitingReset
  | resetSequencing
  | fetchOpcode
  | executingOpcode
  deriving DecidableEq, Repr

/-- The state the stored values stand for (R130). -/
def engineState (s : State) : EngineState :=
  if s.pins.resb = false then .awaitingReset
  else if 0 < s.seq.rlc then .resetSequencing
  else if s.seq.ic = 0 then .fetchOpcode
  else .executingOpcode

/-- `Stopped := (IR = 0xDB and ic = 2 and rlc = 0)` (R251). -/
def Stopped (s : State) : Prop := s.seq.ir = 0xDB ∧ s.seq.ic = 2 ∧ s.seq.rlc = 0

/-- `Waiting := (IR = 0xCB and ic = 2 and rlc = 0)` (R252). -/
def Waiting (s : State) : Prop := s.seq.ir = 0xCB ∧ s.seq.ic = 2 ∧ s.seq.rlc = 0

/-- `address_out = PC`, the lines are FETCH_OPCODE and `data_in` is the byte at `PC`: the next `Clock()` latches the
opcode at `PC` (R26, R136). -/
def OpcodePresented (s : State) : Prop :=
  s.pins.addressOut = s.regs.pc ∧ s.pins.ctl = .fetchOpcode ∧ s.seq.dataIn = s.busByte s.regs.pc

/-- The last micro-step has run: `ic = 0` and the next opcode is presented (R136). -/
def Completed (s : State) : Prop := s.seq.ic = 0 ∧ OpcodePresented s

/-- What no instruction touches: the parameters, the input lines, `MX`, `rlc` and the host's schedule (R40, R42, R43). -/
def SameHost (s t : State) : Prop :=
  t.params = s.params ∧
  t.pins.resb = s.pins.resb ∧ t.pins.abortb = s.pins.abortb ∧ t.pins.irqb = s.pins.irqb ∧
  t.pins.nmib = s.pins.nmib ∧ t.pins.be = s.pins.be ∧ t.pins.rdy = s.pins.rdy ∧ t.pins.mx = s.pins.mx ∧
  t.seq.rlc = s.seq.rlc ∧ t.hostResb = s.hostResb

/-- Every device keeps its whole store, so every byte of memory reads as before. -/
def SameMemory (s t : State) : Prop :=
  t.devices = s.devices ∧ ∀ a, t.busByte a = s.busByte a

/-- The diagnostic channel after bus reads at these addresses, in order: an event for each that no device claims (R64,
R271). -/
def eventsAfterReads (ds : List Device) (reads : List Long) (es : List Diag) : List Diag :=
  reads.foldl (fun es a => readDiag ds a ++ es) es

/-- The addresses of the bytes of the instruction stream at these distances from `pc` (R26, R76). -/
def codeReads (pc : Long) (ks : List Nat) : List Long := ks.map (codeAddr pc)

/-- What an instruction that stores nothing and completes leaves beside the registers and the `E` line: memory, the
host's side and `data_out` as they were, its opcode in `IR`, `tl` and `th` in the operand latches, the next opcode
presented, and on the diagnostic channel the events of its bus reads and no others. -/
def CompletedReading (opcode tl th : Byte) (reads : List Long) (s t : State) : Prop :=
  Completed t ∧ SameMemory s t ∧ SameHost s t ∧ t.pins.phi2 = false ∧
  t.seq = { s.seq with ir := opcode, ic := 0, tl := tl, th := th, dataIn := t.seq.dataIn } ∧
  t.diag = eventsAfterReads s.devices reads s.diag

/-- As `CompletedReading`, with the `E` line as it was: everything but the registers is said. -/
def CompletedWithoutStore (opcode tl th : Byte) (reads : List Long) (s t : State) : Prop :=
  CompletedReading opcode tl th reads s t ∧ t.pins.eLine = s.pins.eLine

/-- An implied form: the latches stay, and the byte after the opcode is read twice, by the internal cycle and by the next
opcode fetch (R140). -/
def CompletedImplied (opcode : Byte) (s t : State) : Prop :=
  CompletedWithoutStore opcode s.seq.tl s.seq.th (codeReads s.regs.pc [1, 1]) s t

/-- REP and SEP: the mask in `TL`; the operand byte is read, then the byte after it twice (R141). -/
def CompletedMask (opcode mask : Byte) (s t : State) : Prop :=
  CompletedWithoutStore opcode mask s.seq.th (codeReads s.regs.pc [1, 2, 2]) s t

/-- An immediate form: the operand in the latches, `TH` only when it has a second byte; the operand bytes and the next
opcode are read (R143). -/
def CompletedImmediate (opcode : Byte) (imm : Imm) (s t : State) : Prop :=
  match imm with
  | .b8 v => CompletedWithoutStore opcode v s.seq.th (codeReads s.regs.pc [1, 2]) s t
  | .w16 v => CompletedWithoutStore opcode (loByte v) (hiByte v) (codeReads s.regs.pc [1, 2, 3]) s t

/-- The width invariants: 8-bit index registers have a zero high byte (R22), and emulation mode forces both width flags
(R31). -/
def WidthsHold (r : Regs) : Prop :=
  (r.p.x = true → r.xh = 0 ∧ r.yh = 0) ∧ (r.epE = true → r.p.m = true ∧ r.p.x = true)

/-- The registers no instruction writes hold what reset put there (R32, R33, R34). -/
def FixedRegistersHold (r : Regs) : Prop := r.d = 0 ∧ r.dbr = 0 ∧ hiByte (offOf r.sp) = 0x01

/-- VPB and MLB are inactive in every cycle (R82, R137), and the `E` line shows `EP.E` (R41). -/
def LinesHold (s : State) : Prop :=
  s.pins.ctl.vpb = true ∧ s.pins.ctl.mlb = true ∧ s.pins.eLine = s.regs.epE ∧ s.pins.phi2 = false

/-- The number of rows of an opcode's cycle pattern, 0 where it has no handler (R106, R140 to R147). -/
def patternRows (ir : Byte) : Nat :=
  if ir = 0x8D then 5
  else if ir = 0x5C then 4
  else if ir ∈ [0xC2, 0xE2, 0x69, 0xA9, 0xA2, 0xA0, 0x4C, 0xDB, 0xCB] then 3
  else if ir ∈ [0x18, 0x38, 0xFB, 0xE8, 0xC8, 0xCA, 0x88, 0xAA, 0xEA] then 2
  else 0

/-- `rlc` is saturated (R38), and `ic` is 0 or names a row of the pattern of the held instruction, whose handler is
present (R37, R106). -/
def CountersHold (s : State) : Prop :=
  s.seq.rlc ≤ 2 ∧
  (s.seq.ic = 0 ∨ (s.params.implements s.seq.ir = true ∧ s.seq.ic.toNat < patternRows s.seq.ir))

/-- The 16-bit path of an immediate instruction is taken with its width flag 0, and the flag is constant over the
instruction (R139, R143). -/
def WidthPathHolds (s : State) : Prop :=
  s.seq.rlc = 0 → s.seq.ic = 2 →
    (s.seq.ir = 0x69 ∨ s.seq.ir = 0xA9 → s.regs.p.m = false) ∧
    (s.seq.ir = 0xA2 ∨ s.seq.ir = 0xA0 → s.regs.p.x = false)

/-- Outside reset, `ic = 0` means that the opcode at `PC` is presented (R26). -/
def BoundaryHolds (s : State) : Prop := s.seq.rlc = 0 → s.seq.ic = 0 → OpcodePresented s

/-- Every device's store is canonical and inside its range (R62, R63). -/
def DevicesHold (s : State) : Prop := s.devices.all Device.wf = true

/-- The invariant of the machine. -/
def Inv (s : State) : Prop :=
  WidthsHold s.regs ∧ FixedRegistersHold s.regs ∧ LinesHold s ∧ CountersHold s ∧ WidthPathHolds s ∧
  BoundaryHolds s ∧ DevicesHold s

/-- The lines and settings no rule samples (R42, R273), as one value. -/
structure UnsampledLines where
  abortb : Bool
  irqb : Bool
  nmib : Bool
  be : Bool
  rdy : Bool
  mx : Bool
  deriving DecidableEq, Repr

/-- The state with other levels on the lines no rule samples. -/
def withUnsampled (l : UnsampledLines) (s : State) : State :=
  { s with pins := { s.pins with
      abortb := l.abortb, irqb := l.irqb, nmib := l.nmib, be := l.be, rdy := l.rdy, mx := l.mx } }

/-- An outcome with its next state changed by a function. -/
def mapNext (f : State → State) : Result → Result
  | .next t => .next (f t)
  | .fault r => .fault r
  | .refused r => .refused r

/-- The flags after an instruction that judges a `w`-bit result `r`: N is its bit `w - 1`, Z says that it is 0, the
other six stay (R191). -/
def Status.judged (w r : Nat) (p : Status) : Status := { p with n := decide (2 ^ (w - 1) ≤ r), z := decide (r = 0) }

/-- A register of 16 bits and `P` written at a width: 8 bits (`narrow`) give the low byte the value `r8` and keep the
high byte, 16 bits give the whole register the value `r16`; N and Z judge the written part (R21, R22, R191). -/
def WrittenAtWidth (narrow : Bool) (old new : Word) (r8 r16 : Nat) (p q : Status) : Prop :=
  if narrow then hiByte new = hiByte old ∧ (loByte new).toNat = r8 ∧ q = p.judged 8 r8
  else new.toNat = r16 ∧ q = p.judged 16 r16

/-- The value of an immediate as a natural number (R102). -/
def immValue : Imm → Nat
  | .b8 v => v.toNat
  | .w16 v => v.toNat

/-- The byte, and the clock, that a 16-bit immediate costs beyond the table's 8-bit case, by addressing mode and width
flags (R103, R315). -/
def wideImmediate (mode : Config.AddrMode) (m x : Bool) : Nat :=
  if mode = .immM then (if m then 0 else 1)
  else if mode = .immX then (if x then 0 else 1)
  else 0

/-- A RAM is the first claimant of an address for both directions (R66). -/
def RamServes (ds : List Device) (a : Long) : Prop :=
  ∃ before d after, ds = before ++ d :: after ∧ d.kind = .ram ∧ d.validRead a = true ∧
    ∀ e ∈ before, e.validRead a = false

/-- A ROM is the first claimant of reads of an address (R64, R67). -/
def RomServes (ds : List Device) (a : Long) : Prop :=
  ∃ before d after, ds = before ++ d :: after ∧ d.kind = .rom ∧ d.validRead a = true ∧
    ∀ e ∈ before, e.validRead a = false

/-- The first `n` bytes of the instruction stream at `PC` (R26, R76). -/
def codeBytes (s : State) (n : Nat) : List Byte :=
  (List.range n).map fun k => s.busByte (codeAddr s.regs.pc k)

/-- The state with the flags that no instruction reads set to a fixed value (R29: N, V, D, I, Z). -/
def forgetUnreadFlags (s : State) : State :=
  { s with regs := { s.regs with p := { s.regs.p with n := false, v := false, d := false, i := false, z := false } } }

/-- The state with older events under those of the diagnostic channel. -/
def withOlderEvents (old : List Diag) (s : State) : State := { s with diag := s.diag ++ old }

end Sys2Proof.Machine
end

