-- ==== Sys2Proof/Certificates/Slice0/Obligations.lean ====
section
/-!
DEFINITION. Certificates/Slice0/Obligations.lean: the statements for the provers. Each docstring names the rule of spec/ the
statement formalises; where a rule is a decision or an inference of the spec itself (its marks `D<n>`), or a choice
of this model (log n), the docstring says so. Every statement holds for every value of the parameters of
spec/00_scope.md R7, or names the value it needs. `s.params.implements op` says that `IMPLEMENTED` has the opcode, as
its default has the twenty of R106; where it does not, the opcode is refused (`PlaceholdersRefused`).
-/

section

open Sys2Proof Sys2Proof.Machine

/-! ### Encoding -/

/-- Decoding the bytes of an instruction that is well-formed under the width flags gives it back, and leaves the
bytes after it (spec/30_encoding.md R100 to R103). -/
def Obligations.DecodeOfEncode : Prop :=
  ∀ (m x : Bool) (i : Instr) (rest : List Byte), WellFormed m x i = true →
    decode m x (encode i ++ rest) = .ok (i, rest)

/-- Every byte list that decodes is the encoding of what it decodes to, which is well-formed, and the rest. -/
def Obligations.EncodeOfDecode : Prop :=
  ∀ (m x : Bool) (bs : List Byte) (i : Instr) (rest : List Byte), decode m x bs = .ok (i, rest) →
    WellFormed m x i = true ∧ encode i ++ rest = bs

/-- There is no illegal opcode: every first byte, with at least three bytes after it, decodes to an instruction of that
opcode, and has a table entry (R100, R108). A list is rejected only for being too short, by name. -/
def Obligations.NoIllegalOpcode : Prop :=
  ∀ (m x : Bool) (op : Byte) (rest : List Byte),
    (3 ≤ rest.length → ∃ i rest', decode m x (op :: rest) = .ok (i, rest') ∧ opcodeByte i = op) ∧
    (∀ e, decode m x (op :: rest) = .error e → e = .truncated op ∧ rest.length < 3) ∧
    ∃ row ∈ Config.opcodeTable, row.opcode = op

/-- The length of an instruction is the table's, one more for an immediate whose width flag is 0; the rule's own
example (R103). -/
def Obligations.LengthByOpcodeAndFlag : Prop :=
  (∀ (m x : Bool) (i : Instr), WellFormed m x i = true →
    ∃ row ∈ Config.opcodeTable, row.opcode = opcodeByte i ∧
      (encode i).length = row.bytes + wideImmediate row.mode m x) ∧
  (∀ x, decode true x [0xA9, 0x01, 0x00] = .ok (.ldaImm (.b8 0x01), [0x00])) ∧
  (∀ x, decode false x [0xA9, 0x01, 0x00] = .ok (.ldaImm (.w16 0x0001), []))

/-- Words written out from the formats of R101 and the opcodes of R106 decode to the instructions they stand for; the
first is the document's own. -/
def Obligations.SpecWordsDecode : Prop :=
  decode true true [0x4C, 0x00, 0x20] = .ok (.jmpAbs 0x2000, []) ∧
  decode true true [0x5C, 0x00, 0x20, 0x01] = .ok (.jmpAbsLong 0x012000, []) ∧
  decode true true [0x8D, 0x00, 0x30] = .ok (.staAbs 0x3000, []) ∧
  decode true true [0xA9, 0xFE] = .ok (.ldaImm (.b8 0xFE), []) ∧
  decode false true [0xA9, 0xFF, 0x00] = .ok (.ldaImm (.w16 0x00FF), []) ∧
  decode true false [0xA2, 0x34, 0x12] = .ok (.ldxImm (.w16 0x1234), []) ∧
  decode true true [0xC2, 0x30] = .ok (.rep 0x30, []) ∧
  decode false false [0xE2, 0x10] = .ok (.sep 0x10, []) ∧
  decode true true [0xFB] = .ok (.xce, []) ∧
  decode true true [0xDB] = .ok (.stp, [])

/-- The table has 256 entries in opcode order; exactly the twenty opcodes of R106 have a handler, in the table, in the
engine and in the default of `IMPLEMENTED` (R104, R106; the default is the spec's decision D10, log 18). Under any
`IMPLEMENTED` the engine dispatches on those of the twenty that it has. -/
def Obligations.OpcodeTableShape : Prop :=
  Config.opcodeTable.map (·.opcode) = (List.range 256).map (BitVec.ofNat 8) ∧
  (Config.opcodeTable.filter (·.handler)).map (·.opcode) =
    [0x18, 0x38, 0x4C, 0x5C, 0x69, 0x88, 0x8D, 0xA0, 0xA2, 0xA9, 0xAA, 0xC2, 0xC8, 0xCA, 0xCB, 0xDB, 0xE2, 0xE8, 0xEA,
      0xFB] ∧
  (Config.opcodeTable.filter (·.handler)).map (·.opcode) = Config.implemented ∧
  Config.params.implemented = Config.implemented ∧
  ∀ (p : Config.Params) (op : Byte),
    (handlerOf p op).isSome = true ↔ p.implements op = true ∧ op ∈ Config.implemented

/-- The clocks of an admitted instruction are the table's base count, one more for a 16-bit operand (R315). That they
are the clocks the engine takes is `StepRefinesCycles`. -/
def Obligations.ClockCounts : Prop :=
  ∀ (m x : Bool) (i : Instr), WellFormed m x i = true → opcodeByte i ∈ Config.implemented →
    ∃ row ∈ Config.opcodeTable, row.opcode = opcodeByte i ∧
      instrClocks m i =
        row.baseCycles + wideImmediate row.mode m x + (if opcodeByte i = 0x8D ∧ m = false then 1 else 0)

/-- The bits of `P` (R28; the positions are the spec's decision D1). -/
def Obligations.StatusBits : Prop :=
  ∀ p : Status,
    p.toByte.getLsbD 7 = p.n ∧ p.toByte.getLsbD 6 = p.v ∧ p.toByte.getLsbD 5 = p.m ∧ p.toByte.getLsbD 4 = p.x ∧
    p.toByte.getLsbD 3 = p.d ∧ p.toByte.getLsbD 2 = p.i ∧ p.toByte.getLsbD 1 = p.z ∧ p.toByte.getLsbD 0 = p.c ∧
    Status.ofByte p.toByte = p

/-! ### Flags and modes -/

/-- CLC and SEC write the carry flag and advance the `PC` by 1, in 2 clocks; nothing else changes, the operand latches
neither; the two bus reads after the opcode may raise their events (R170, R171). -/
def Obligations.CarryInstructions : Prop :=
  encode .clc = [0x18] ∧ encode .sec = [0x38] ∧ (∀ m, instrClocks m .clc = 2 ∧ instrClocks m .sec = 2) ∧
  ∀ s : State,
    (s.params.implements 0x18 = true → ∃ t, exec .clc s = .next t ∧
      t.regs = { s.regs with pc := incOffset s.regs.pc, p := { s.regs.p with c := false } } ∧
      CompletedImplied 0x18 s t) ∧
    (s.params.implements 0x38 = true → ∃ t, exec .sec s = .next t ∧
      t.regs = { s.regs with pc := incOffset s.regs.pc, p := { s.regs.p with c := true } } ∧
      CompletedImplied 0x38 s t)

/-- XCE exchanges the carry and the mode; entering or staying in emulation sets M and X and clears the index high bytes,
leaving it changes neither; the `E` line shows the new mode (R172; that `P.C` receives the old mode is the spec's
decision D16). -/
def Obligations.XceExchanges : Prop :=
  encode .xce = [0xFB] ∧ (∀ m, instrClocks m .xce = 2) ∧
  ∀ s : State, s.params.implements 0xFB = true → ∃ t, exec .xce s = .next t ∧
    t.regs = { s.regs with
      pc := incOffset s.regs.pc
      epE := s.regs.p.c
      p := { s.regs.p with
        c := s.regs.epE, m := s.regs.p.m || s.regs.p.c, x := s.regs.p.x || s.regs.p.c }
      x := if s.regs.p.c then mkWord 0x00 s.regs.xl else s.regs.x
      y := if s.regs.p.c then mkWord 0x00 s.regs.yl else s.regs.y } ∧
    t.pins.eLine = s.regs.p.c ∧
    CompletedReading 0xFB s.seq.tl s.seq.th (codeReads s.regs.pc [1, 1]) s t

/-- REP clears the bits of `P` that its mask names, but M and X stay 1 in emulation mode; nothing else changes (R173). -/
def Obligations.RepClearsMaskedFlags : Prop :=
  (∀ mask, encode (.rep mask) = [0xC2, mask]) ∧ (∀ m mask, instrClocks m (.rep mask) = 3) ∧
  ∀ (mask : Byte) (s : State), s.params.implements 0xC2 = true → ∃ t, exec (.rep mask) s = .next t ∧
    t.regs = { s.regs with pc := codeAddr s.regs.pc 2, p := t.regs.p } ∧
    t.regs.p.toByte = s.regs.p.toByte &&& ~~~mask ||| (if s.regs.epE then 0x30 else 0x00) ∧
    CompletedMask 0xC2 mask s t

/-- SEP sets the bits of `P` that its mask names, M and X too in emulation mode; when X is then 1 the index high bytes
are 0; nothing else changes (R174; the zeroing in native mode is the spec's decision D15). -/
def Obligations.SepSetsMaskedFlags : Prop :=
  (∀ mask, encode (.sep mask) = [0xE2, mask]) ∧ (∀ m mask, instrClocks m (.sep mask) = 3) ∧
  ∀ (mask : Byte) (s : State), s.params.implements 0xE2 = true → ∃ t, exec (.sep mask) s = .next t ∧
    t.regs = { s.regs with
      pc := codeAddr s.regs.pc 2
      p := t.regs.p
      x := if t.regs.p.x then mkWord 0x00 s.regs.xl else s.regs.x
      y := if t.regs.p.x then mkWord 0x00 s.regs.yl else s.regs.y } ∧
    t.regs.p.toByte = s.regs.p.toByte ||| mask ||| (if s.regs.epE then 0x30 else 0x00) ∧
    CompletedMask 0xE2 mask s t

/-! ### Arithmetic -/

/-- ADC adds the immediate and the carry to the accumulator at the width of `P.M`: the truncated sum, the true carry of
the sum and Z; in the corner of R190 (b), operand all ones and carry-in 1, the carry is the parameter
`ADC_CARRY_CORNER`, which by its default, 1, is the true carry there too (log 18). `AH` stays in the 8-bit case, N, V
and D stay, and D is ignored (R190; C and Z assigned both ways are the spec's decision D13). -/
def Obligations.AdcAddsWithCarry : Prop :=
  (∀ v, encode (.adcImm (.b8 v)) = [0x69, v]) ∧
  (∀ v, encode (.adcImm (.w16 v)) = [0x69, loByte v, hiByte v]) ∧
  (∀ m imm, imm.fits m = true → instrClocks m (.adcImm imm) = if m then 2 else 3) ∧
  Config.params.adcCarryCorner = true ∧
  (∀ (v : Byte) (s : State), s.params.implements 0x69 = true → s.regs.p.m = true →
    ∃ t c, exec (.adcImm (.b8 v)) s = .next t ∧
      t.regs = { s.regs with
        pc := codeAddr s.regs.pc 2
        a := mkWord s.regs.ah (BitVec.ofNat 8 (s.regs.al.toNat + v.toNat + s.regs.p.c.toNat))
        p := { s.regs.p with
          c := c
          z := decide ((s.regs.al.toNat + v.toNat + s.regs.p.c.toNat) % 256 = 0) } } ∧
      (v = 0xFF → s.regs.p.c = true → c = s.params.adcCarryCorner) ∧
      (v ≠ 0xFF ∨ s.regs.p.c = false ∨ s.params.adcCarryCorner = true →
        c = decide (256 ≤ s.regs.al.toNat + v.toNat + s.regs.p.c.toNat)) ∧
      CompletedImmediate 0x69 (.b8 v) s t) ∧
  (∀ (v : Word) (s : State), s.params.implements 0x69 = true → s.regs.p.m = false →
    ∃ t c, exec (.adcImm (.w16 v)) s = .next t ∧
      t.regs = { s.regs with
        pc := codeAddr s.regs.pc 3
        a := BitVec.ofNat 16 (s.regs.a.toNat + v.toNat + s.regs.p.c.toNat)
        p := { s.regs.p with
          c := c
          z := decide ((s.regs.a.toNat + v.toNat + s.regs.p.c.toNat) % 65536 = 0) } } ∧
      (v = 0xFFFF → s.regs.p.c = true → c = s.params.adcCarryCorner) ∧
      (v ≠ 0xFFFF ∨ s.regs.p.c = false ∨ s.params.adcCarryCorner = true →
        c = decide (65536 ≤ s.regs.a.toNat + v.toNat + s.regs.p.c.toNat)) ∧
      CompletedImmediate 0x69 (.w16 v) s t)

/-- The rows of the table of ADC outcomes (R192): accumulator, carry-in and operand give accumulator, carry and Z, whatever
the other registers and flags hold. The two rows with the operand all ones and the carry in run through the corner of
R190 (b) and need the default 1 of `ADC_CARRY_CORNER` (C3, U3; log 18). -/
def Obligations.AdcTable : Prop :=
  ∀ r : Regs,
    (∀ row ∈ ([(0x12FE, false, 0x01, 0x12FF, false, false), (0x12FF, false, 0x01, 0x1200, true, true),
        (0x12FF, true, 0x00, 0x1200, true, true), (0x1200, true, 0x00, 0x1201, false, false),
        (0x127F, false, 0x01, 0x1280, false, false), (0x1234, true, 0xFF, 0x1234, true, false),
        (0x1200, false, 0x00, 0x1200, false, true)] : List (Word × Bool × Byte × Word × Bool × Bool)),
      ∀ s : State, s.params.implements 0x69 = true → (row.2.2.1 = 0xFF → s.params.adcCarryCorner = true) →
        s.regs = { r with a := row.1, p := { r.p with m := true, c := row.2.1 } } →
        ∃ t, exec (.adcImm (.b8 row.2.2.1)) s = .next t ∧
          t.regs.a = row.2.2.2.1 ∧ t.regs.p = { s.regs.p with c := row.2.2.2.2.1, z := row.2.2.2.2.2 }) ∧
    (∀ row ∈ ([(0x00FF, false, 0x0001, 0x0100, false, false), (0xFFFF, false, 0x0001, 0x0000, true, true),
        (0xFFFF, true, 0xFFFF, 0xFFFF, true, false), (0x8000, false, 0x8000, 0x0000, true, true)] :
          List (Word × Bool × Word × Word × Bool × Bool)),
      ∀ s : State, s.params.implements 0x69 = true → (row.2.2.1 = 0xFFFF → s.params.adcCarryCorner = true) →
        s.regs = { r with a := row.1, p := { r.p with m := false, c := row.2.1 } } →
        ∃ t, exec (.adcImm (.w16 row.2.2.1)) s = .next t ∧
          t.regs.a = row.2.2.2.1 ∧ t.regs.p = { s.regs.p with c := row.2.2.2.2.1, z := row.2.2.2.2.2 })

/-! ### Loads and the store -/

/-- LDA loads the immediate at the width of `P.M`, `AH` staying in the 8-bit case, and judges N and Z on the loaded width;
nothing else changes (R201). -/
def Obligations.LdaLoadsImmediate : Prop :=
  (∀ v, encode (.ldaImm (.b8 v)) = [0xA9, v]) ∧ (∀ v, encode (.ldaImm (.w16 v)) = [0xA9, loByte v, hiByte v]) ∧
  (∀ m imm, imm.fits m = true → instrClocks m (.ldaImm imm) = if m then 2 else 3) ∧
  ∀ (imm : Imm) (s : State), s.params.implements 0xA9 = true → imm.fits s.regs.p.m = true →
    ∃ t a q, exec (.ldaImm imm) s = .next t ∧
      t.regs = { s.regs with pc := codeAddr s.regs.pc (if s.regs.p.m then 2 else 3), a := a, p := q } ∧
      WrittenAtWidth s.regs.p.m s.regs.a a (immValue imm) (immValue imm) s.regs.p q ∧
      CompletedImmediate 0xA9 imm s t

/-- LDX loads the immediate at the width of `P.X` and judges N and Z on it; nothing else changes (R202). -/
def Obligations.LdxLoadsImmediate : Prop :=
  (∀ v, encode (.ldxImm (.b8 v)) = [0xA2, v]) ∧ (∀ v, encode (.ldxImm (.w16 v)) = [0xA2, loByte v, hiByte v]) ∧
  (∀ m x imm, imm.fits x = true → instrClocks m (.ldxImm imm) = if x then 2 else 3) ∧
  ∀ (imm : Imm) (s : State), s.params.implements 0xA2 = true → imm.fits s.regs.p.x = true →
    ∃ t v q, exec (.ldxImm imm) s = .next t ∧
      t.regs = { s.regs with pc := codeAddr s.regs.pc (if s.regs.p.x then 2 else 3), x := v, p := q } ∧
      WrittenAtWidth s.regs.p.x s.regs.x v (immValue imm) (immValue imm) s.regs.p q ∧
      CompletedImmediate 0xA2 imm s t

/-- LDY loads the immediate at the width of `P.X` and judges N and Z on it; nothing else changes (R203). -/
def Obligations.LdyLoadsImmediate : Prop :=
  (∀ v, encode (.ldyImm (.b8 v)) = [0xA0, v]) ∧ (∀ v, encode (.ldyImm (.w16 v)) = [0xA0, loByte v, hiByte v]) ∧
  (∀ m x imm, imm.fits x = true → instrClocks m (.ldyImm imm) = if x then 2 else 3) ∧
  ∀ (imm : Imm) (s : State), s.params.implements 0xA0 = true → imm.fits s.regs.p.x = true →
    ∃ t v q, exec (.ldyImm imm) s = .next t ∧
      t.regs = { s.regs with pc := codeAddr s.regs.pc (if s.regs.p.x then 2 else 3), y := v, p := q } ∧
      WrittenAtWidth s.regs.p.x s.regs.y v (immValue imm) (immValue imm) s.regs.p q ∧
      CompletedImmediate 0xA0 imm s t

/-- STA writes `AL` at `DBR.bank : addr16`, and with `P.M = 0` then `AH` at the next 24-bit address; only the `PC` changes
in the registers; the operand goes to the latches and the last byte stored to `data_out`; a write that no device claims
is an event and changes no device, and no other event is raised but those of the bus reads (R204). -/
def Obligations.StaStoresAccumulator : Prop :=
  (∀ w, encode (.staAbs w) = [0x8D, loByte w, hiByte w]) ∧
  (∀ m w, instrClocks m (.staAbs w) = if m then 4 else 5) ∧
  ∀ (w : Word) (s : State), s.params.implements 0x8D = true → ∃ t, exec (.staAbs w) s = .next t ∧
    t.regs = { s.regs with pc := codeAddr s.regs.pc 3 } ∧
    (let ea := mkLong (bankOf s.regs.dbr) w
     let fetched := eventsAfterReads s.devices (codeReads s.regs.pc [1, 2]) s.diag
     (s.regs.p.m = true → t.devices = busWrite s.devices ea s.regs.al ∧
       t.diag = readDiag t.devices t.regs.pc ++ (writeDiag s.devices ea s.regs.al ++ fetched) ∧
       (claimedWrite s.devices ea s.regs.al = none → Diag.unclaimedWrite ea ∈ t.diag ∧ t.devices = s.devices)) ∧
     (s.regs.p.m = false → t.devices = busWrite (busWrite s.devices ea s.regs.al) (ea + 1) s.regs.ah ∧
       t.diag = readDiag t.devices t.regs.pc ++
         (writeDiag (busWrite s.devices ea s.regs.al) (ea + 1) s.regs.ah ++
           (writeDiag s.devices ea s.regs.al ++ fetched)) ∧
       (claimedWrite s.devices ea s.regs.al = none → Diag.unclaimedWrite ea ∈ t.diag) ∧
       (claimedWrite (busWrite s.devices ea s.regs.al) (ea + 1) s.regs.ah = none →
         Diag.unclaimedWrite (ea + 1) ∈ t.diag))) ∧
    t.seq = { s.seq with
      ir := 0x8D, ic := 0, tl := loByte w, th := hiByte w
      dataOut := if s.regs.p.m then s.regs.al else s.regs.ah
      dataIn := t.seq.dataIn } ∧
    Completed t ∧ SameHost s t ∧ t.pins.eLine = s.pins.eLine ∧ t.pins.phi2 = false

/-- A store changes the bytes it stores and no other: every other address reads as before, and a stored address served
by a RAM reads the stored byte, low byte first (R66, R74, R204). -/
def Obligations.StaMemoryFrame : Prop :=
  ∀ (w : Word) (s t : State), DevicesHold s → exec (.staAbs w) s = .next t →
    (∀ a, a ∉ (storedBytes s.regs w).map (·.1) → t.busByte a = s.busByte a) ∧
    (∀ c ∈ storedBytes s.regs w, RamServes s.devices c.1 → t.busByte c.1 = c.2) ∧
    (let ea := mkLong (bankOf s.regs.dbr) w
     storedBytes s.regs w =
       if s.regs.p.m then [(ea, s.regs.al)] else [(ea, s.regs.al), (ea + 1, s.regs.ah)])

/-! ### Jumps -/

/-- JMP addr16 replaces the offset of the `PC` and keeps its bank, in 3 clocks; nothing else changes (R220). -/
def Obligations.JmpAbsoluteKeepsBank : Prop :=
  (∀ w, encode (.jmpAbs w) = [0x4C, loByte w, hiByte w]) ∧ (∀ m w, instrClocks m (.jmpAbs w) = 3) ∧
  ∀ (w : Word) (s : State), s.params.implements 0x4C = true → ∃ t, exec (.jmpAbs w) s = .next t ∧
    t.regs = { s.regs with pc := t.regs.pc } ∧ offOf t.regs.pc = w ∧ bankOf t.regs.pc = bankOf s.regs.pc ∧
    t.pins.addressOut = t.regs.pc ∧ CompletedWithoutStore 0x4C (loByte w) s.seq.th (codeReads s.regs.pc [1, 2] ++ [t.regs.pc]) s t

/-- JMP addr24 replaces all of the `PC`, in 4 clocks; nothing else changes, the data bank neither (R221). -/
def Obligations.JmpLongSetsBank : Prop :=
  (∀ l, encode (.jmpAbsLong l) = [0x5C, loByte (offOf l), hiByte (offOf l), bankOf l]) ∧
  (∀ m l, instrClocks m (.jmpAbsLong l) = 4) ∧
  ∀ (l : Long) (s : State), s.params.implements 0x5C = true → ∃ t, exec (.jmpAbsLong l) s = .next t ∧
    t.regs = { s.regs with pc := l } ∧ t.pins.addressOut = l ∧
    CompletedWithoutStore 0x5C (loByte (offOf l)) (hiByte (offOf l)) (codeReads s.regs.pc [1, 2, 3] ++ [l]) s t

/-! ### Index registers -/

/-- INX and INY add 1 at the width of `P.X`, modulo 2^8 or 2^16, the high byte staying in the 8-bit case, and judge N and
Z on the result; no other flag or register changes (R230, R231, R232). -/
def Obligations.IndexIncrements : Prop :=
  encode .inx = [0xE8] ∧ encode .iny = [0xC8] ∧ (∀ m, instrClocks m .inx = 2 ∧ instrClocks m .iny = 2) ∧
  ∀ s : State,
    (s.params.implements 0xE8 = true → ∃ t v q, exec .inx s = .next t ∧ t.regs = { s.regs with pc := incOffset s.regs.pc, x := v, p := q } ∧
      WrittenAtWidth s.regs.p.x s.regs.x v ((s.regs.xl.toNat + 1) % 256) ((s.regs.x.toNat + 1) % 65536) s.regs.p q ∧
      CompletedImplied 0xE8 s t) ∧
    (s.params.implements 0xC8 = true → ∃ t v q, exec .iny s = .next t ∧ t.regs = { s.regs with pc := incOffset s.regs.pc, y := v, p := q } ∧
      WrittenAtWidth s.regs.p.x s.regs.y v ((s.regs.yl.toNat + 1) % 256) ((s.regs.y.toNat + 1) % 65536) s.regs.p q ∧
      CompletedImplied 0xC8 s t)

/-- DEX and DEY subtract 1 at the width of `P.X`: 0 goes to the all-ones value; otherwise as `IndexIncrements` (R230,
R233, R234). -/
def Obligations.IndexDecrements : Prop :=
  encode .dex = [0xCA] ∧ encode .dey = [0x88] ∧ (∀ m, instrClocks m .dex = 2 ∧ instrClocks m .dey = 2) ∧
  ∀ s : State,
    (s.params.implements 0xCA = true → ∃ t v q, exec .dex s = .next t ∧ t.regs = { s.regs with pc := incOffset s.regs.pc, x := v, p := q } ∧
      WrittenAtWidth s.regs.p.x s.regs.x v (if s.regs.xl.toNat = 0 then 255 else s.regs.xl.toNat - 1)
        (if s.regs.x.toNat = 0 then 65535 else s.regs.x.toNat - 1) s.regs.p q ∧
      CompletedImplied 0xCA s t) ∧
    (s.params.implements 0x88 = true → ∃ t v q, exec .dey s = .next t ∧ t.regs = { s.regs with pc := incOffset s.regs.pc, y := v, p := q } ∧
      WrittenAtWidth s.regs.p.x s.regs.y v (if s.regs.yl.toNat = 0 then 255 else s.regs.yl.toNat - 1)
        (if s.regs.y.toNat = 0 then 65535 else s.regs.y.toNat - 1) s.regs.p q ∧
      CompletedImplied 0x88 s t)

/-- TAX copies `A` to `X` at the width of the destination: `AL` when `P.X = 1`, all 16 bits when `P.X = 0`, whatever `P.M`
is; N and Z judge the copied part; `A` and the rest stay (R235). -/
def Obligations.TaxTransfersAtIndexWidth : Prop :=
  encode .tax = [0xAA] ∧ (∀ m, instrClocks m .tax = 2) ∧
  ∀ s : State, s.params.implements 0xAA = true → ∃ t v q, exec .tax s = .next t ∧
    t.regs = { s.regs with pc := incOffset s.regs.pc, x := v, p := q } ∧
    WrittenAtWidth s.regs.p.x s.regs.x v s.regs.al.toNat s.regs.a.toNat s.regs.p q ∧
    CompletedImplied 0xAA s t

/-! ### System -/

/-- NOP advances the `PC` by 1 in 2 clocks and changes nothing else, the operand latches neither; the two bus reads after
the opcode may raise their events (R250). -/
def Obligations.NopAdvances : Prop :=
  encode .nop = [0xEA] ∧ (∀ m, instrClocks m .nop = 2) ∧
  ∀ s : State, s.params.implements 0xEA = true → ∃ t, exec .nop s = .next t ∧ t.regs = { s.regs with pc := incOffset s.regs.pc } ∧
    CompletedImplied 0xEA s t

/-- STP and WAI end, after 3 clocks, in their hold: `IR` the opcode, `ic = 2`, the `PC` one further, the lines INTERNAL;
no other register or latch of the core and no memory changes, and the three bus reads may raise their events (R251, R252; the hold is the spec's decision D19). -/
def Obligations.StpWaiReachHold : Prop :=
  encode .stp = [0xDB] ∧ encode .wai = [0xCB] ∧ (∀ m, instrClocks m .stp = 3 ∧ instrClocks m .wai = 3) ∧
  ∀ s : State, s.seq.rlc = 0 →
    (s.params.implements 0xDB = true → ∃ t, exec .stp s = .next t ∧ Stopped t ∧ t.regs = { s.regs with pc := incOffset s.regs.pc } ∧
      t.seq = { s.seq with ir := 0xDB, ic := 2, dataIn := t.seq.dataIn } ∧
      t.pins.ctl = ⟨false, false, true, true, true⟩ ∧ t.pins.addressOut = t.regs.pc ∧
      t.pins.eLine = s.pins.eLine ∧ t.pins.phi2 = false ∧ SameMemory s t ∧ SameHost s t ∧
      t.diag = eventsAfterReads s.devices (codeReads s.regs.pc [1, 1, 1]) s.diag) ∧
    (s.params.implements 0xCB = true → ∃ t, exec .wai s = .next t ∧ Waiting t ∧ t.regs = { s.regs with pc := incOffset s.regs.pc } ∧
      t.seq = { s.seq with ir := 0xCB, ic := 2, dataIn := t.seq.dataIn } ∧
      t.pins.ctl = ⟨false, false, true, true, true⟩ ∧ t.pins.addressOut = t.regs.pc ∧
      t.pins.eLine = s.pins.eLine ∧ t.pins.phi2 = false ∧ SameMemory s t ∧ SameHost s t ∧
      t.diag = eventsAfterReads s.devices (codeReads s.regs.pc [1, 1, 1]) s.diag)

/-- The hold of STP and WAI: as long as RESB stays high, no later clock changes a register, a latch of the core or a
memory cell; `data_in` is the byte after the instruction (R147, R251, R252, R313; that a WAI ends by reset only is the
spec's decision D19, log 25). -/
def Obligations.HoldIsPermanent : Prop :=
  ∀ (s : State) (n : Nat), Stopped s ∨ Waiting s → s.params.implements s.seq.ir = true → s.pins.resb = true →
    (∀ b ∈ s.hostResb.take n, b = true) →
    ∃ t, cycles n s = .next t ∧ t.regs = s.regs ∧ t.devices = s.devices ∧
      t.seq = { s.seq with dataIn := t.seq.dataIn } ∧ t.pins.resb = true ∧
      (0 < n → t.seq.dataIn = s.busByte s.regs.pc ∧ t.pins.addressOut = s.regs.pc ∧
        t.pins.ctl = ⟨false, false, true, true, true⟩)

/-- Every opcode outside `IMPLEMENTED` is refused, whatever that parameter is, by the instruction and by the clock that
dispatches on it, with the opcode and the `PC`, the payload of the diagnostic; no state results (R108, R254: "a model
must refuse"; log 6). So is one of the 236 whose handler the spec does not define, if a platform's `IMPLEMENTED` names
it. -/
def Obligations.PlaceholdersRefused : Prop :=
  (Config.opcodeTable.filter (fun row => !row.handler)).length = 236 ∧
  (∀ (i : Instr) (s : State), s.params.implements (opcodeByte i) = false ∨ opcodeByte i ∉ Config.implemented →
    exec i s = .refused (.unimplementedOpcode (opcodeByte i) s.regs.pc)) ∧
  ∀ s : State, s.pins.resb = true → s.seq.rlc = 0 → s.seq.ic = 0 →
    s.params.implements s.seq.dataIn = false ∨ s.seq.dataIn ∉ Config.implemented →
    clock s = .refused (.unimplementedOpcode s.seq.dataIn s.regs.pc)

/-- The block as built, which the model does not assume (log 6): on an opcode without a handler, presented at `PC`, one
clock raises the diagnostic and changes nothing but `IR`, so the next clock finds the same (R254, the spec's decision
D12). -/
def Obligations.StagnationAsBuilt : Prop :=
  ∀ (op : Byte) (s : State), OpcodePresented s → s.pins.phi2 = false →
    ∃ t, placeholderWith .stagnate op s = .next t ∧
      t = { s with
        seq := { s.seq with ir := op }
        diag := readDiag s.devices s.regs.pc ++ Diag.unimplementedOpcode op s.regs.pc :: s.diag } ∧
      OpcodePresented t

/-- How an admitted instruction ends: at the width the flags select it answers a next state, completed, or held for STP
and WAI (R256); an immediate of the other width is refused, being no instruction under those flags (this model's
choice, log 8). -/
def Obligations.AdmittedInstructionsEnd : Prop :=
  ∀ (i : Instr) (s : State), opcodeByte i ∈ Config.implemented → s.params.implements (opcodeByte i) = true →
    (WellFormed s.regs.p.m s.regs.p.x i = true →
      ∃ t, exec i s = .next t ∧ t.seq.ir = opcodeByte i ∧
        (if i = .stp ∨ i = .wai then t.seq.ic = 2 else Completed t)) ∧
    (WellFormed s.regs.p.m s.regs.p.x i = false → exec i s = .refused .operandWidth)

/-! ### What instructions write and read -/

/-- The writers of every register over the instruction set (R23, R30, R32 to R34): `A` by ADC and LDA; `X` by LDX, INX,
DEX, TAX, XCE, SEP; `Y` by LDY, INY, DEY, XCE, SEP; `EP.E` by XCE; `EP.B`, `D`, `S`, `DBR` by none; memory by STA. -/
def Obligations.OnlyWritersOfRegisters : Prop :=
  ∀ (i : Instr) (s t : State), exec i s = .next t →
    (t.regs.a ≠ s.regs.a → opcodeByte i ∈ [0x69, 0xA9]) ∧
    (t.regs.x ≠ s.regs.x → opcodeByte i ∈ [0xA2, 0xE8, 0xCA, 0xAA, 0xFB, 0xE2]) ∧
    (t.regs.y ≠ s.regs.y → opcodeByte i ∈ [0xA0, 0xC8, 0x88, 0xFB, 0xE2]) ∧
    (t.regs.epE ≠ s.regs.epE → opcodeByte i = 0xFB) ∧
    t.regs.epB = s.regs.epB ∧ t.regs.d = s.regs.d ∧ t.regs.sp = s.regs.sp ∧ t.regs.dbr = s.regs.dbr ∧
    (t.devices ≠ s.devices → opcodeByte i = 0x8D)

/-- The writers of every flag (R29). -/
def Obligations.OnlyWritersOfFlags : Prop :=
  ∀ (i : Instr) (s t : State), exec i s = .next t →
    (t.regs.p.n ≠ s.regs.p.n → opcodeByte i ∈ [0xA9, 0xA2, 0xA0, 0xE8, 0xC8, 0xCA, 0x88, 0xAA, 0xC2, 0xE2]) ∧
    (t.regs.p.v ≠ s.regs.p.v → opcodeByte i ∈ [0xC2, 0xE2]) ∧
    (t.regs.p.m ≠ s.regs.p.m → opcodeByte i ∈ [0xC2, 0xE2, 0xFB]) ∧
    (t.regs.p.x ≠ s.regs.p.x → opcodeByte i ∈ [0xC2, 0xE2, 0xFB]) ∧
    (t.regs.p.d ≠ s.regs.p.d → opcodeByte i ∈ [0xC2, 0xE2]) ∧
    (t.regs.p.i ≠ s.regs.p.i → opcodeByte i ∈ [0xC2, 0xE2]) ∧
    (t.regs.p.z ≠ s.regs.p.z → opcodeByte i ∈ [0x69, 0xA9, 0xA2, 0xA0, 0xE8, 0xC8, 0xCA, 0x88, 0xAA, 0xC2, 0xE2]) ∧
    (t.regs.p.c ≠ s.regs.p.c → opcodeByte i ∈ [0x69, 0x18, 0x38, 0xFB, 0xC2, 0xE2])

/-- N, V, D, I and Z are read by no instruction: what an instruction does to everything else does not depend on them
(R29; D is ignored by ADC, R190). -/
def Obligations.UnreadFlagsHaveNoEffect : Prop :=
  ∀ (i : Instr) (s : State),
    mapNext forgetUnreadFlags (exec i (forgetUnreadFlags s)) = mapNext forgetUnreadFlags (exec i s)

/-- Sequential flow: an instruction that is no jump leaves the `PC` at its own address plus its length, inside its bank
(R26, R222). -/
def Obligations.SequentialFlow : Prop :=
  ∀ (i : Instr) (s t : State), exec i s = .next t → opcodeByte i ≠ 0x4C → opcodeByte i ≠ 0x5C →
    t.regs.pc = codeAddr s.regs.pc (encode i).length ∧ bankOf t.regs.pc = bankOf s.regs.pc ∧
    offOf t.regs.pc = offOf s.regs.pc + BitVec.ofNat 16 (encode i).length

/-- The bank of the `PC` is changed by the last micro-step of JMP absolute long and by the release of reset alone (R26,
R221 (a)), stated of one cycle in any state. -/
def Obligations.OnlyLongJumpAndResetChangeBank : Prop :=
  ∀ s t : State, cycle s = .next t → bankOf t.regs.pc ≠ bankOf s.regs.pc →
    s.pins.resb = true ∧ ((s.seq.rlc = 0 ∧ s.seq.ir = 0x5C ∧ s.seq.ic = 3) ∨ 2 ≤ s.seq.rlc)

/-! ### The step -/

/-- A step runs the decoded instruction: at an instruction boundary where the opcode at `PC` is presented, the bytes at
`PC` decode to an instruction, and no reset begins inside it, the step is that instruction, then the host's moves of
its clocks (this model's step, log 1). -/
def Obligations.StepRunsDecodedInstruction : Prop :=
  ∀ (s : State) (i : Instr) (rest : List Byte),
    atBoundary s = true → OpcodePresented s →
    decode s.regs.p.m s.regs.p.x (codeBytes s 4) = .ok (i, rest) →
    quiet (instrClocks s.regs.p.m i) s = true →
    step s = mapNext (hostMoves (instrClocks s.regs.p.m i)) (exec i s)

/-- Everywhere else (reset held or released, inside an instruction, in a hold), and where a reset begins inside the
instruction, the step is one cycle (log 1). -/
def Obligations.StepIsOneCycleElsewhere : Prop :=
  ∀ s : State,
    (atBoundary s = false ∨ quiet (instrClocks s.regs.p.m (fetchInstr s)) s = false) → step s = cycle s

/-- A word stored by `withFetchWord` is what the next step runs, for every state with 8-bit width flags, the case of the
opcode table (this model's loading operation, log 16, log 17). -/
def Obligations.FetchWordIsRun : Prop :=
  ∀ (s : State) (nbits w : Nat) (i : Instr), DevicesHold s → s.regs.p.m = true → s.regs.p.x = true →
    decodeTableWord nbits w = some i →
    step (s.withFetchWord nbits w) = exec i (s.withFetchWord nbits w)

/-- The two levels agree (R11): at an instruction boundary with no reset inside the instruction, the step is exactly the
cycles of that instruction: the same next state, or the same refusal. -/
def Obligations.StepRefinesCycles : Prop :=
  ∀ s : State, atBoundary s = true → quiet (instrClocks s.regs.p.m (fetchInstr s)) s = true →
    step s = cycles (instrClocks s.regs.p.m (fetchInstr s)) s

/-! ### Invariants -/

/-- The state after reset meets the invariant, for every value of the parameters and of what reset leaves unspecified and
every well-formed list of devices; the one this model names among them (R45, log 3, log 4, log 18). -/
def Obligations.ResetMeetsInvariant : Prop :=
  (∀ (p : Config.Params) (w : Draws) (ds : List Device), ds.all Device.wf = true → Inv (State.launch p w ds)) ∧
  Inv State.reset

/-- Every step keeps the invariant (R22, R31 to R34, R37, R38, R41; memory stays canonical). -/
def Obligations.StepKeepsInvariant : Prop := ∀ s t : State, Inv s → step s = .next t → Inv t

/-- No step faults (R256, R271): the stuck state of the model is reached from no state of the invariant (log 9). -/
def Obligations.StepNeverFaults : Prop := ∀ (s : State) (r : Fault), Inv s → step s ≠ .fault r

/-- A step is refused for two reasons only. An opcode is dispatched whose handler `IMPLEMENTED` leaves out (R254), or that
is none of the twenty whose handler the spec defines, even where a platform's `IMPLEMENTED` names it (the second is this
model's choice, log 18). Or RESB is high after a single low clock (R305, the spec's decision D6). -/
def Obligations.RefusalsAreTwo : Prop :=
  ∀ (s : State) (r : Refusal), Inv s → step s = .refused r →
    (∃ op, r = .unimplementedOpcode op s.regs.pc ∧ op = s.busByte s.regs.pc ∧
      (s.params.implements op = false ∨ op ∉ Config.implemented) ∧ atBoundary s = true) ∨
    (r = .shortResetPulse ∧ s.pins.resb = true ∧ s.seq.rlc = 1)

/-- The parameters are configuration: no step and no clock writes them (R43). -/
def Obligations.ParametersNeverChange : Prop :=
  ∀ s t : State, step s = .next t ∨ cycle s = .next t → t.params = s.params

/-! ### What has no effect -/

/-- ABORTB, IRQB, NMIB, BE, RDY and MX have no effect at any level: a step under other levels of them is the same step
(R42, R273; that the core takes no interrupt is the spec's decision D20, log 23). -/
def Obligations.UnsampledLinesHaveNoEffect : Prop :=
  ∀ (l : UnsampledLines) (s : State), step (withUnsampled l s) = mapNext (withUnsampled l) (step s)

/-- The diagnostic channel is append-only and no rule reads it: older events change nothing and stay (R270). -/
def Obligations.DiagnosticsChangeNothing : Prop :=
  ∀ (old : List Diag) (s : State), step (withOlderEvents old s) = mapNext (withOlderEvents old) (step s)

/-! ### Bus -/

/-- A read is served by the first device that claims it, without an event; a read no device claims gives the sentinel
and one event (R62, R64). The sentinel is the parameter `UNCLAIMED_READ`; its default is the spec's decision D21 (log
18). -/
def Obligations.FirstClaimantServesRead : Prop :=
  Config.params.unclaimedRead = 0xC8 ∧
  (∀ (u : Byte) (before after : List Device) (d : Device) (a : Long),
    d.start ≤ a → a ≤ d.stop → (∀ e ∈ before, e.validRead a = false) →
    busRead u (before ++ d :: after) a = Memory.read d.store a.toNat ∧ readDiag (before ++ d :: after) a = []) ∧
  (∀ (u : Byte) (ds : List Device) (a : Long), (∀ e ∈ ds, e.validRead a = false) →
    busRead u ds a = u ∧ readDiag ds a = [.unclaimedRead a])

/-- A write goes to the first RAM over the address and to nothing else, past any ROM; where there is none it is dropped,
with one event (R62, R63, R65). -/
def Obligations.FirstClaimantTakesWrite : Prop :=
  (∀ (before after : List Device) (d : Device) (a : Long) (b : Byte),
    d.kind = .ram → d.start ≤ a → a ≤ d.stop → (∀ e ∈ before, e.kind = .rom ∨ ¬ (e.start ≤ a ∧ a ≤ e.stop)) →
    busWrite (before ++ d :: after) a b =
      before ++ { d with store := Memory.write d.store a.toNat b } :: after ∧
    writeDiag (before ++ d :: after) a b = []) ∧
  (∀ (ds : List Device) (a : Long) (b : Byte), (∀ e ∈ ds, e.kind = .rom ∨ ¬ (e.start ≤ a ∧ a ≤ e.stop)) →
    busWrite ds a b = ds ∧ writeDiag ds a b = [.unclaimedWrite a])

/-- A RAM reads back what was written, until the next write of that address: a write elsewhere leaves it (R66). -/
def Obligations.RamReadsBack : Prop :=
  ∀ (u : Byte) (ds : List Device) (a : Long) (b : Byte), ds.all Device.wf = true →
    (RamServes ds a → busRead u (busWrite ds a b) a = b ∧ RamServes (busWrite ds a b) a) ∧
    ∀ x, x ≠ a → busRead u (busWrite ds a b) x = busRead u ds x

/-- Where a ROM serves the reads of an address, no write at all changes what is read there (R67). -/
def Obligations.RomNeverChanges : Prop :=
  ∀ (u : Byte) (ds : List Device) (a x : Long) (b : Byte), ds.all Device.wf = true → RomServes ds x →
    busRead u (busWrite ds a b) x = busRead u ds x ∧ RomServes (busWrite ds a b) x

/-- The bus tick reads into `data_in` when RWB is 1 and writes `data_out` when it is 0, at `address_out`; it changes no
register. That a write leaves `data_in`, which R71 calls unspecified then, is read from R73 (DEDUCED, log 10). -/
def Obligations.BusTickByDirection : Prop :=
  ∀ s : State,
    (busTick s).regs = s.regs ∧
    (s.pins.ctl.rwb = true →
      (busTick s).seq = { s.seq with dataIn := s.busByte s.pins.addressOut } ∧
      (busTick s).devices = s.devices ∧
      (busTick s).diag = readDiag s.devices s.pins.addressOut ++ s.diag) ∧
    (s.pins.ctl.rwb = false →
      (busTick s).seq = s.seq ∧
      (busTick s).devices = busWrite s.devices s.pins.addressOut s.seq.dataOut ∧
      (busTick s).diag = writeDiag s.devices s.pins.addressOut s.seq.dataOut ++ s.diag)

/-- Code addresses wrap inside their bank, data addresses carry over all 24 bits (R25, R76, the spec's decision D17). -/
def Obligations.AddressArithmetic : Prop :=
  ∀ a : Long,
    bankOf (incOffset a) = bankOf a ∧ (offOf (incOffset a)).toNat = ((offOf a).toNat + 1) % 2 ^ 16 ∧
    (nextDataAddr a).toNat = (a.toNat + 1) % 2 ^ 24 ∧
    incOffset 0x12FFFF = 0x120000 ∧ nextDataAddr 0x00FFFF = 0x010000 ∧ nextDataAddr 0xFFFFFF = 0x000000

/-! ### Reset -/

/-- A low RESB wins over everything, whatever `ic` is: the clock runs no micro-step and counts. The first low clock
changes the counter alone (R132, R300; the saturation at 2 is the spec's decision D23). -/
def Obligations.LowResetCountsFirst : Prop :=
  ∀ s : State, s.pins.resb = false →
    ∃ t, clock s = .next t ∧ t.seq = { s.seq with rlc := min (s.seq.rlc + 1) 2 } ∧
      t.regs.pc = s.regs.pc ∧ t.regs.a = s.regs.a ∧ t.pins.addressOut = s.pins.addressOut ∧ t.devices = s.devices ∧
      (s.seq.rlc = 0 →
        t = { s with seq := { s.seq with rlc := 1 }, pins := { s.pins with phi2 := true } })

/-- From the second low clock on the canonical reset state is forced, and what R302 names is not written (R301, R302; MLB
by the spec's decision D7). -/
def Obligations.ForcedResetState : Prop :=
  ∀ s : State, s.pins.resb = false → 1 ≤ s.seq.rlc →
    ∃ t, clock s = .next t ∧
      t.regs = { s.regs with
        d := 0x000000
        dbr := 0x000000
        sp := mkLong (bankOf s.regs.sp) (mkWord 0x01 (loByte (offOf s.regs.sp)))
        x := mkWord 0x00 s.regs.xl
        y := mkWord 0x00 s.regs.yl
        epE := true
        p := { s.regs.p with m := true, x := true, d := false, i := true } } ∧
      t.seq = { s.seq with rlc := 2 } ∧ t.devices = s.devices ∧ t.pins.eLine = true ∧
      t.pins.ctl = ⟨false, false, true, true, true⟩ ∧ t.pins.addressOut = s.pins.addressOut

/-- The release clock loads the `PC` with the reset vector constant of the mode, clears both counters and presents the
first opcode fetch; nothing else changes (R277, R303). The twelve vectors are parameters; at their defaults they are
those of R276 (the spec's decisions D4, D5, log 18), but for `VEC_N_RESET`, which has none: there a release in native
mode, which no run reaches, loads a free value (log 19). -/
def Obligations.ReleaseLoadsResetVector : Prop :=
  (Config.params.vectors true).reset = 0x00FFFC ∧
  (Config.params.vectors true).toInterruptVectors = ⟨0x00FFFE, 0x00FFFA, 0x00FFF8, 0x00FFFE, 0x00FFF4⟩ ∧
  (Config.params.vectors false).toInterruptVectors = ⟨0x00FFEE, 0x00FFEA, 0x00FFE8, 0x00FFE6, 0x00FFE4⟩ ∧
  Config.params.vecNReset = none ∧
  ∀ s : State, s.pins.resb = true → 2 ≤ s.seq.rlc →
    ∃ t, clock s = .next t ∧ t.regs = { s.regs with pc := t.regs.pc } ∧
      (s.regs.epE = true → t.regs.pc = s.params.vecEReset) ∧
      (s.regs.epE = false → t.regs.pc = s.params.vecNReset.getD Config.freeVecNReset) ∧
      t.params = s.params ∧ t.hostResb = s.hostResb ∧
      t.seq = { s.seq with ic := 0, rlc := 0 } ∧ t.devices = s.devices ∧ t.diag = s.diag ∧
      t.pins = { s.pins with addressOut := t.regs.pc, ctl := ⟨true, true, true, true, true⟩, phi2 := true }

/-- RESB high after a single low clock has no meaning: the clock is refused (R305, the spec's decision D6). -/
def Obligations.ShortResetPulseRefused : Prop :=
  ∀ s : State, s.pins.resb = true → s.seq.rlc = 1 → clock s = .refused .shortResetPulse

/-- The reset property (R306): from every state with RESB low, after `n` clocks with RESB low, `n` at least 2, and the
release clock, the `PC` is the emulation reset vector, the parameter `VEC_E_RESET` whose default is 0x00FFFC (R304, D4;
log 18), the flags, mode and bytes that reset forces are forced, the
fetch of the first opcode is presented, and what reset does not write is as it was, the registers, IR, TL, TH and
data_out (R302); memory too, when the
interrupted cycle was no write, which the first low clock repeats (R300). -/
def Obligations.ResetSequence : Prop :=
  ∀ (s : State) (n : Nat) (more : List Bool), 2 ≤ n → s.pins.resb = false →
    s.hostResb = List.replicate (n - 1) false ++ true :: more →
    ∃ t, cycles (n + 1) s = .next t ∧
      t.regs = { s.regs with
        pc := s.params.vecEReset
        d := 0x000000
        dbr := 0x000000
        sp := mkLong (bankOf s.regs.sp) (mkWord 0x01 (loByte (offOf s.regs.sp)))
        x := mkWord 0x00 s.regs.xl
        y := mkWord 0x00 s.regs.yl
        epE := true
        p := { s.regs.p with m := true, x := true, d := false, i := true } } ∧
      t.seq = { s.seq with ic := 0, rlc := 0, dataIn := t.seq.dataIn } ∧ t.pins.eLine = true ∧ OpcodePresented t ∧
      (s.pins.ctl.rwb = true ∨ 1 ≤ s.seq.rlc → t.devices = s.devices)

/-- A reset between the two write cycles of a 16-bit store leaves the low byte alone written: the clock that would write
the high byte sees RESB low, and its bus tick repeats the low byte (R77, R132, R300). `IMPLEMENTED` has STA, as its
default has (log 18). -/
def Obligations.ResetTearsWideStore : Prop :=
  ∀ (s : State) (w : Word) (more : List Bool), DevicesHold s → s.params.implements 0x8D = true → atBoundary s = true →
    s.regs.p.m = false → fetchInstr s = .staAbs w → s.hostResb = true :: true :: false :: more →
    ∃ t, cycles 4 s = .next t ∧ t.seq.rlc = 1 ∧
      t.devices = busWrite (busWrite s.devices (absoluteEa s.regs.dbr w) s.regs.al) (absoluteEa s.regs.dbr w)
        s.regs.al ∧
      ∀ a, a ≠ absoluteEa s.regs.dbr w → t.busByte a = s.busByte a

/-- Running into unclaimed memory: where no device claims the `PC`, and the sentinel is the default 0xC8 of
`UNCLAIMED_READ` (the spec's decision D21, log 18), the step is an INY: `Y`, N and Z as INY writes them, no other
register and no memory, and an event for each of its two bus reads of the byte after, where that is unclaimed too
(R312). -/
def Obligations.UnclaimedMemoryRunsIny : Prop :=
  ∀ s : State, s.params.unclaimedRead = 0xC8 → s.params.implements 0xC8 = true →
    atBoundary s = true → OpcodePresented s → quiet 2 s = true → claimedRead s.devices s.regs.pc = none →
    ∃ t v q, step s = .next t ∧ t.regs = { s.regs with pc := incOffset s.regs.pc, y := v, p := q } ∧
      WrittenAtWidth s.regs.p.x s.regs.y v ((s.regs.yl.toNat + 1) % 256) ((s.regs.y.toNat + 1) % 65536) s.regs.p q ∧
      t.devices = s.devices ∧ t.seq.ir = 0xC8 ∧
      t.diag = readDiag s.devices (incOffset s.regs.pc) ++ (readDiag s.devices (incOffset s.regs.pc) ++ s.diag)

end
end

