-- ==== Sys2Proof/Laws/Bits.lean ====
section
/-!
SUPPORT. Laws/Bits.lean: slices and concatenations undo each other (spec/00_scope.md R8, R9), and the code address
after `k` bytes stays in its bank (spec/10_state.md R25).
-/

namespace Sys2Proof

theorem getLsbD_mkWord (h l : Byte) (i : Nat) :
    (mkWord h l).getLsbD i = if i < 8 then l.getLsbD i else h.getLsbD (i - 8) :=
  BitVec.getLsbD_append

theorem getLsbD_mkLong (b : Byte) (o : Word) (i : Nat) :
    (mkLong b o).getLsbD i = if i < 16 then o.getLsbD i else b.getLsbD (i - 16) :=
  BitVec.getLsbD_append

theorem getLsbD_loByte (w : Word) (i : Nat) : (loByte w).getLsbD i = (decide (i < 8) && w.getLsbD i) := by
  simp [loByte]

theorem getLsbD_hiByte (w : Word) (i : Nat) : (hiByte w).getLsbD i = (decide (i < 8) && w.getLsbD (8 + i)) := by
  simp [hiByte]

theorem getLsbD_offOf (l : Long) (i : Nat) : (offOf l).getLsbD i = (decide (i < 16) && l.getLsbD i) := by
  simp [offOf]

theorem getLsbD_bankOf (l : Long) (i : Nat) : (bankOf l).getLsbD i = (decide (i < 8) && l.getLsbD (16 + i)) := by
  simp [bankOf]

@[simp] theorem loByte_mkWord (h l : Byte) : loByte (mkWord h l) = l := by
  apply BitVec.eq_of_getLsbD_eq; intro i hi
  rw [getLsbD_loByte, getLsbD_mkWord]; simp [hi]

@[simp] theorem hiByte_mkWord (h l : Byte) : hiByte (mkWord h l) = h := by
  apply BitVec.eq_of_getLsbD_eq; intro i hi
  rw [getLsbD_hiByte, getLsbD_mkWord]; simp [hi]

@[simp] theorem mkWord_hi_lo (w : Word) : mkWord (hiByte w) (loByte w) = w := by
  apply BitVec.eq_of_getLsbD_eq; intro i hi
  rw [getLsbD_mkWord, getLsbD_hiByte, getLsbD_loByte]
  split
  · simp [*]
  · rw [show 8 + (i - 8) = i by omega]; simp [show i - 8 < 8 by omega]

@[simp] theorem bankOf_mkLong (b : Byte) (o : Word) : bankOf (mkLong b o) = b := by
  apply BitVec.eq_of_getLsbD_eq; intro i hi
  rw [getLsbD_bankOf, getLsbD_mkLong]; simp [hi]

@[simp] theorem offOf_mkLong (b : Byte) (o : Word) : offOf (mkLong b o) = o := by
  apply BitVec.eq_of_getLsbD_eq; intro i hi
  rw [getLsbD_offOf, getLsbD_mkLong]; simp [hi]

@[simp] theorem mkLong_bank_off (l : Long) : mkLong (bankOf l) (offOf l) = l := by
  apply BitVec.eq_of_getLsbD_eq; intro i hi
  rw [getLsbD_mkLong, getLsbD_bankOf, getLsbD_offOf]
  split
  · simp [*]
  · rw [show 16 + (i - 16) = i by omega]; simp [show i - 16 < 8 by omega]

namespace Machine

@[simp] theorem bankOf_incOffset (pc : Long) : bankOf (incOffset pc) = bankOf pc := by simp [incOffset]

@[simp] theorem offOf_incOffset (pc : Long) : offOf (incOffset pc) = offOf pc + 1 := by simp [incOffset]

@[simp] theorem codeAddr_zero (pc : Long) : codeAddr pc 0 = pc := rfl

theorem codeAddr_succ (pc : Long) (k : Nat) : codeAddr pc (k + 1) = incOffset (codeAddr pc k) := rfl

/-- The bank never changes along the bytes of an instruction. -/
@[simp] theorem bankOf_codeAddr (pc : Long) (k : Nat) : bankOf (codeAddr pc k) = bankOf pc := by
  induction k with
  | zero => rfl
  | succ k ih => rw [codeAddr_succ, bankOf_incOffset, ih]

@[simp] theorem loByte_withLow (w : Word) (b : Byte) : loByte (withLow w b) = b := by simp [withLow]

@[simp] theorem hiByte_withLow (w : Word) (b : Byte) : hiByte (withLow w b) = hiByte w := by simp [withLow]

/-- The flags of the byte of `P` are the flags of `P`. -/
@[simp] theorem Status.ofByte_toByte (p : Status) : Status.ofByte p.toByte = p := by
  obtain ⟨n, v, m, x, d, i, z, c⟩ := p
  cases n <;> cases v <;> cases m <;> cases x <;> cases d <;> cases i <;> cases z <;> cases c <;> decide

/-- The byte of the flags of a byte is that byte. -/
@[simp] theorem Status.toByte_ofByte (b : Byte) : (Status.ofByte b).toByte = b := by
  revert b; decide

end Machine

end Sys2Proof
end

