-- ==== Sys2Proof/Laws/State.lean ====
section
/-!
SUPPORT. Laws/State.lean: what each primitive action does to each part of the state, one lemma a part, true by
unfolding, so that no later proof unfolds a record update.
-/

namespace Sys2Proof.Machine

variable (s : State)

@[simp] theorem onRegs_regs (f : Regs → Regs) : (onRegs f s).regs = f s.regs := rfl
@[simp] theorem onRegs_seq (f : Regs → Regs) : (onRegs f s).seq = s.seq := rfl
@[simp] theorem onRegs_pins (f : Regs → Regs) : (onRegs f s).pins = s.pins := rfl
@[simp] theorem onRegs_devices (f : Regs → Regs) : (onRegs f s).devices = s.devices := rfl
@[simp] theorem onRegs_diag (f : Regs → Regs) : (onRegs f s).diag = s.diag := rfl
@[simp] theorem onRegs_hostResb (f : Regs → Regs) : (onRegs f s).hostResb = s.hostResb := rfl
@[simp] theorem onRegs_params (f : Regs → Regs) : (onRegs f s).params = s.params := rfl

@[simp] theorem latchIr_regs (op : Byte) : (latchIr op s).regs = s.regs := rfl
@[simp] theorem latchIr_seq (op : Byte) : (latchIr op s).seq = { s.seq with ir := op } := rfl
@[simp] theorem latchIr_pins (op : Byte) : (latchIr op s).pins = s.pins := rfl
@[simp] theorem latchIr_devices (op : Byte) : (latchIr op s).devices = s.devices := rfl
@[simp] theorem latchIr_diag (op : Byte) : (latchIr op s).diag = s.diag := rfl
@[simp] theorem latchIr_hostResb (op : Byte) : (latchIr op s).hostResb = s.hostResb := rfl
@[simp] theorem latchIr_params (op : Byte) : (latchIr op s).params = s.params := rfl

@[simp] theorem setIc_regs (n : Byte) : (setIc n s).regs = s.regs := rfl
@[simp] theorem setIc_seq (n : Byte) : (setIc n s).seq = { s.seq with ic := n } := rfl
@[simp] theorem setIc_pins (n : Byte) : (setIc n s).pins = s.pins := rfl
@[simp] theorem setIc_devices (n : Byte) : (setIc n s).devices = s.devices := rfl
@[simp] theorem setIc_diag (n : Byte) : (setIc n s).diag = s.diag := rfl
@[simp] theorem setIc_hostResb (n : Byte) : (setIc n s).hostResb = s.hostResb := rfl
@[simp] theorem setIc_params (n : Byte) : (setIc n s).params = s.params := rfl

@[simp] theorem setTl_regs (b : Byte) : (setTl b s).regs = s.regs := rfl
@[simp] theorem setTl_seq (b : Byte) : (setTl b s).seq = { s.seq with tl := b } := rfl
@[simp] theorem setTl_pins (b : Byte) : (setTl b s).pins = s.pins := rfl
@[simp] theorem setTl_devices (b : Byte) : (setTl b s).devices = s.devices := rfl
@[simp] theorem setTl_diag (b : Byte) : (setTl b s).diag = s.diag := rfl
@[simp] theorem setTl_hostResb (b : Byte) : (setTl b s).hostResb = s.hostResb := rfl
@[simp] theorem setTl_params (b : Byte) : (setTl b s).params = s.params := rfl

@[simp] theorem setTh_regs (b : Byte) : (setTh b s).regs = s.regs := rfl
@[simp] theorem setTh_seq (b : Byte) : (setTh b s).seq = { s.seq with th := b } := rfl
@[simp] theorem setTh_pins (b : Byte) : (setTh b s).pins = s.pins := rfl
@[simp] theorem setTh_devices (b : Byte) : (setTh b s).devices = s.devices := rfl
@[simp] theorem setTh_diag (b : Byte) : (setTh b s).diag = s.diag := rfl
@[simp] theorem setTh_hostResb (b : Byte) : (setTh b s).hostResb = s.hostResb := rfl
@[simp] theorem setTh_params (b : Byte) : (setTh b s).params = s.params := rfl

@[simp] theorem setDataOut_regs (b : Byte) : (setDataOut b s).regs = s.regs := rfl
@[simp] theorem setDataOut_seq (b : Byte) : (setDataOut b s).seq = { s.seq with dataOut := b } := rfl
@[simp] theorem setDataOut_pins (b : Byte) : (setDataOut b s).pins = s.pins := rfl
@[simp] theorem setDataOut_devices (b : Byte) : (setDataOut b s).devices = s.devices := rfl
@[simp] theorem setDataOut_diag (b : Byte) : (setDataOut b s).diag = s.diag := rfl
@[simp] theorem setDataOut_hostResb (b : Byte) : (setDataOut b s).hostResb = s.hostResb := rfl
@[simp] theorem setDataOut_params (b : Byte) : (setDataOut b s).params = s.params := rfl

@[simp] theorem incPc_regs : (incPc s).regs = { s.regs with pc := incOffset s.regs.pc } := rfl
@[simp] theorem incPc_seq : (incPc s).seq = s.seq := rfl
@[simp] theorem incPc_pins : (incPc s).pins = s.pins := rfl
@[simp] theorem incPc_devices : (incPc s).devices = s.devices := rfl
@[simp] theorem incPc_diag : (incPc s).diag = s.diag := rfl
@[simp] theorem incPc_hostResb : (incPc s).hostResb = s.hostResb := rfl
@[simp] theorem incPc_params : (incPc s).params = s.params := rfl

@[simp] theorem drive_regs (a : Long) (l : Lines) : (drive a l s).regs = s.regs := rfl
@[simp] theorem drive_seq (a : Long) (l : Lines) : (drive a l s).seq = s.seq := rfl
@[simp] theorem drive_pins (a : Long) (l : Lines) : (drive a l s).pins = { s.pins with addressOut := a, ctl := l } := rfl
@[simp] theorem drive_devices (a : Long) (l : Lines) : (drive a l s).devices = s.devices := rfl
@[simp] theorem drive_diag (a : Long) (l : Lines) : (drive a l s).diag = s.diag := rfl
@[simp] theorem drive_hostResb (a : Long) (l : Lines) : (drive a l s).hostResb = s.hostResb := rfl
@[simp] theorem drive_params (a : Long) (l : Lines) : (drive a l s).params = s.params := rfl

@[simp] theorem present_regs (l : Lines) : (present l s).regs = s.regs := rfl
@[simp] theorem present_seq (l : Lines) : (present l s).seq = s.seq := rfl
@[simp] theorem present_pins (l : Lines) : (present l s).pins = { s.pins with addressOut := s.regs.pc, ctl := l } := rfl
@[simp] theorem present_devices (l : Lines) : (present l s).devices = s.devices := rfl
@[simp] theorem present_diag (l : Lines) : (present l s).diag = s.diag := rfl
@[simp] theorem present_hostResb (l : Lines) : (present l s).hostResb = s.hostResb := rfl
@[simp] theorem present_params (l : Lines) : (present l s).params = s.params := rfl

@[simp] theorem driveE_regs : (driveE s).regs = s.regs := rfl
@[simp] theorem driveE_seq : (driveE s).seq = s.seq := rfl
@[simp] theorem driveE_pins : (driveE s).pins = { s.pins with eLine := s.regs.epE } := rfl
@[simp] theorem driveE_devices : (driveE s).devices = s.devices := rfl
@[simp] theorem driveE_diag : (driveE s).diag = s.diag := rfl
@[simp] theorem driveE_hostResb : (driveE s).hostResb = s.hostResb := rfl
@[simp] theorem driveE_params : (driveE s).params = s.params := rfl

@[simp] theorem raiseDiag_regs (e : Diag) : (raiseDiag e s).regs = s.regs := rfl
@[simp] theorem raiseDiag_seq (e : Diag) : (raiseDiag e s).seq = s.seq := rfl
@[simp] theorem raiseDiag_pins (e : Diag) : (raiseDiag e s).pins = s.pins := rfl
@[simp] theorem raiseDiag_devices (e : Diag) : (raiseDiag e s).devices = s.devices := rfl
@[simp] theorem raiseDiag_diag (e : Diag) : (raiseDiag e s).diag = e :: s.diag := rfl
@[simp] theorem raiseDiag_hostResb (e : Diag) : (raiseDiag e s).hostResb = s.hostResb := rfl
@[simp] theorem raiseDiag_params (e : Diag) : (raiseDiag e s).params = s.params := rfl

@[simp] theorem setPhi2_regs (b : Bool) : (setPhi2 b s).regs = s.regs := rfl
@[simp] theorem setPhi2_seq (b : Bool) : (setPhi2 b s).seq = s.seq := rfl
@[simp] theorem setPhi2_pins (b : Bool) : (setPhi2 b s).pins = { s.pins with phi2 := b } := rfl
@[simp] theorem setPhi2_devices (b : Bool) : (setPhi2 b s).devices = s.devices := rfl
@[simp] theorem setPhi2_diag (b : Bool) : (setPhi2 b s).diag = s.diag := rfl
@[simp] theorem setPhi2_hostResb (b : Bool) : (setPhi2 b s).hostResb = s.hostResb := rfl
@[simp] theorem setPhi2_params (b : Bool) : (setPhi2 b s).params = s.params := rfl

@[simp] theorem hostMoves_zero : hostMoves 0 s = s := rfl

theorem hostMoves_succ (k : Nat) : hostMoves (k + 1) s = hostMoves k (hostMove s) := rfl

@[simp] theorem hostMove_regs : (hostMove s).regs = s.regs := by unfold hostMove; split <;> rfl
@[simp] theorem hostMove_seq : (hostMove s).seq = s.seq := by unfold hostMove; split <;> rfl
@[simp] theorem hostMove_devices : (hostMove s).devices = s.devices := by unfold hostMove; split <;> rfl
@[simp] theorem hostMove_params : (hostMove s).params = s.params := by unfold hostMove; split <;> rfl
@[simp] theorem hostMove_diag : (hostMove s).diag = s.diag := by unfold hostMove; split <;> rfl

/-- The host's move changes nothing but the level of RESB and its own schedule. -/
theorem hostMove_pins : (hostMove s).pins = { s.pins with resb := (s.hostResb.head?).getD s.pins.resb } := by
  unfold hostMove; split <;> simp_all

@[simp] theorem hostMove_hostResb : (hostMove s).hostResb = s.hostResb.tail := by
  unfold hostMove; split <;> simp_all

/-- With nothing scheduled the host does nothing. -/
theorem hostMoves_of_nil (h : s.hostResb = []) (k : Nat) : hostMoves k s = s := by
  induction k with
  | zero => rfl
  | succ k ih =>
    have : hostMove s = s := by simp [hostMove, h]
    rw [hostMoves_succ, this, ih]

@[simp] theorem hostMoves_regs (k : Nat) : (hostMoves k s).regs = s.regs := by
  induction k generalizing s with
  | zero => rfl
  | succ k ih => simp [hostMoves_succ, ih]

@[simp] theorem hostMoves_seq (k : Nat) : (hostMoves k s).seq = s.seq := by
  induction k generalizing s with
  | zero => rfl
  | succ k ih => simp [hostMoves_succ, ih]

@[simp] theorem hostMoves_devices (k : Nat) : (hostMoves k s).devices = s.devices := by
  induction k generalizing s with
  | zero => rfl
  | succ k ih => simp [hostMoves_succ, ih]

@[simp] theorem hostMoves_diag (k : Nat) : (hostMoves k s).diag = s.diag := by
  induction k generalizing s with
  | zero => rfl
  | succ k ih => simp [hostMoves_succ, ih]

@[simp] theorem hostMoves_params (k : Nat) : (hostMoves k s).params = s.params := by
  induction k generalizing s with
  | zero => rfl
  | succ k ih => simp [hostMoves_succ, ih]

/-! ### The bus tick -/

/-- A bus tick with RWB = 1 (R73): the byte goes to `data_in`, with its event; nothing else changes but PHI2. -/
theorem busTick_of_read (h : s.pins.ctl.rwb = true) :
    busTick s = { s with
      seq := { s.seq with dataIn := s.busByte s.pins.addressOut }
      pins := { s.pins with phi2 := false }
      diag := readDiag s.devices s.pins.addressOut ++ s.diag } := by
  unfold busTick; rw [if_pos h]; rfl

/-- A bus tick with RWB = 0 (R73): the byte of `data_out` goes to the first device that takes it, with its event
otherwise; `data_in` stays. -/
theorem busTick_of_write (h : s.pins.ctl.rwb = false) :
    busTick s = { s with
      pins := { s.pins with phi2 := false }
      devices := busWrite s.devices s.pins.addressOut s.seq.dataOut
      diag := writeDiag s.devices s.pins.addressOut s.seq.dataOut ++ s.diag } := by
  unfold busTick; rw [if_neg (by simp [h])]; rfl

@[simp] theorem busTick_regs : (busTick s).regs = s.regs := by unfold busTick; split <;> rfl
@[simp] theorem busTick_pins : (busTick s).pins = { s.pins with phi2 := false } := by
  unfold busTick; split <;> rfl
@[simp] theorem busTick_params : (busTick s).params = s.params := by unfold busTick; split <;> rfl
@[simp] theorem busTick_hostResb : (busTick s).hostResb = s.hostResb := by unfold busTick; split <;> rfl

/-- The bus tick changes at most `data_in` of the sequencing state. -/
theorem busTick_seq : (busTick s).seq = { s.seq with dataIn := (busTick s).seq.dataIn } := by
  unfold busTick; split <;> rfl

/-! ### Runs of micro-steps -/

@[simp] theorem runClocks_nil : runClocks [] s = s := rfl

@[simp] theorem runClocks_cons (f : State → State) (fs : List (State → State)) :
    runClocks (f :: fs) s = runClocks fs (busTick (f s)) := rfl

/-- Every store of `State.reset` is canonical. -/
theorem State.reset_stores_wf : State.reset.devices.all (fun d => Memory.wf d.store) = true := by decide

end Sys2Proof.Machine
end

