-- ==== Sys2Proof/Laws/Patterns.lean ====
section
/-!
SUPPORT. Laws/Patterns.lean: the whole effect of each cycle pattern at the instruction level, one lemma a pattern
(spec/40_cycle_engine.md R140 to R147), for an operation that changes registers only.
-/

namespace Sys2Proof.Machine

/-- The registers after `inc_pc` has run `k` times (R25, R26). -/
def Regs.advance (r : Regs) (k : Nat) : Regs := { r with pc := codeAddr r.pc k }

/-- The diagnostic channel after the bus has read the first `k` bytes behind the opcode, newest event first. -/
def readEvents (s : State) : Nat → List Diag
  | 0 => s.diag
  | k + 1 => readDiag s.devices (codeAddr s.regs.pc (k + 1)) ++ readEvents s k

/-- A state inside an instruction that has stored nothing: the bus tick has read the byte at `a`. -/
def readState (s : State) (op ic tl th : Byte) (r : Regs) (l : Lines) (a : Long) (es : List Diag) : State where
  params := s.params
  regs := r
  seq := { s.seq with ir := op, ic := ic, tl := tl, th := th, dataIn := s.busByte a }
  pins := { s.pins with addressOut := a, ctl := l, phi2 := false }
  devices := s.devices
  diag := readDiag s.devices a ++ es
  hostResb := s.hostResb

/-- The state of a completed instruction: registers `r`, opcode `op` in `IR`, latches `tl` and `th`, the next opcode
presented at `r.pc`, the earlier events `es`. -/
def closedState (s : State) (op tl th : Byte) (r : Regs) (es : List Diag) : State :=
  readState s op 0 tl th r .fetchOpcode r.pc es

/-- A closed state is a completed instruction without a store. -/
theorem closedState_completed (s : State) (op tl th : Byte) (r : Regs) {es : List Diag} {reads : List Long}
    (he : readDiag s.devices r.pc ++ es = eventsAfterReads s.devices reads s.diag) :
    CompletedWithoutStore op tl th reads s (closedState s op tl th r es) :=
  ⟨⟨⟨rfl, rfl, rfl, rfl⟩, ⟨rfl, fun _ => rfl⟩, ⟨rfl, rfl, rfl, rfl, rfl, rfl, rfl, rfl, rfl, rfl⟩, rfl, rfl, he⟩, rfl⟩

/-- XCE completes as the others, but for the `E` line, which shows the mode. -/
theorem driveE_closedState_completed (s : State) (op tl th : Byte) (r : Regs) {es : List Diag} {reads : List Long}
    (he : readDiag s.devices r.pc ++ es = eventsAfterReads s.devices reads s.diag) :
    CompletedReading op tl th reads s (driveE (closedState s op tl th r es)) :=
  ⟨⟨rfl, rfl, rfl, rfl⟩, ⟨rfl, fun _ => rfl⟩, ⟨rfl, rfl, rfl, rfl, rfl, rfl, rfl, rfl, rfl, rfl⟩, rfl, rfl, he⟩

/-! ### Rows -/

theorem openOperand_row (op : Byte) (s : State) :
    busTick (openOperand (latchIr op s)) =
      readState s op 1 s.seq.tl s.seq.th (s.regs.advance 1) .fetchOperand (codeAddr s.regs.pc 1) s.diag := rfl

theorem openInternal_row (op : Byte) (s : State) :
    busTick (openInternal (latchIr op s)) =
      readState s op 1 s.seq.tl s.seq.th (s.regs.advance 1) .internal (codeAddr s.regs.pc 1) s.diag := rfl

theorem operandLow_row (b : Byte) (s : State) (op ic tl th : Byte) (r : Regs) (l : Lines) (a : Long)
    (es : List Diag) :
    busTick (operandLow b (readState s op ic tl th r l a es)) =
      readState s op 2 b th (r.advance 1) .fetchOperand (codeAddr r.pc 1) (readDiag s.devices a ++ es) := rfl

theorem operandHigh_row (b : Byte) (s : State) (op ic tl th : Byte) (r : Regs) (l : Lines) (a : Long)
    (es : List Diag) :
    busTick (operandHigh b (readState s op ic tl th r l a es)) =
      readState s op 3 tl b (r.advance 1) .fetchOperand (codeAddr r.pc 1) (readDiag s.devices a ++ es) := rfl

theorem maskLatch_row (b : Byte) (s : State) (op ic tl th : Byte) (r : Regs) (l : Lines) (a : Long)
    (es : List Diag) :
    busTick (maskLatch b (readState s op ic tl th r l a es)) =
      readState s op 2 b th (r.advance 1) .internal (codeAddr r.pc 1) (readDiag s.devices a ++ es) := rfl

theorem impliedLast_row (f : Regs → Regs) (s : State) (op ic tl th : Byte) (r : Regs) (l : Lines) (a : Long)
    (es : List Diag) :
    busTick (impliedLast (onRegs f) (readState s op ic tl th r l a es)) =
      closedState s op tl th (f r) (readDiag s.devices a ++ es) := rfl

theorem impliedLast_driveE_row (f : Regs → Regs) (s : State) (op ic tl th : Byte) (r : Regs) (l : Lines) (a : Long)
    (es : List Diag) :
    busTick (impliedLast (fun t => driveE (onRegs f t)) (readState s op ic tl th r l a es)) =
      driveE (closedState s op tl th (f r) (readDiag s.devices a ++ es)) := rfl

theorem maskLast_row (f : Byte → Regs → Regs) (s : State) (op ic tl th : Byte) (r : Regs) (l : Lines) (a : Long)
    (es : List Diag) :
    busTick (maskLast (fun m => onRegs (f m)) (readState s op ic tl th r l a es)) =
      closedState s op tl th (f tl r) (readDiag s.devices a ++ es) := rfl

theorem immLast8_row (f : Byte → Regs → Regs) (b : Byte) (s : State) (op ic tl th : Byte) (r : Regs) (l : Lines)
    (a : Long) (es : List Diag) :
    busTick (immLast8 (fun v => onRegs (f v)) b (readState s op ic tl th r l a es)) =
      closedState s op b th (f b (r.advance 1)) (readDiag s.devices a ++ es) := rfl

theorem immLast16_row (f : Word → Regs → Regs) (b : Byte) (s : State) (op ic tl th : Byte) (r : Regs) (l : Lines)
    (a : Long) (es : List Diag) :
    busTick (immLast16 (fun v => onRegs (f v)) b (readState s op ic tl th r l a es)) =
      closedState s op tl b (f (mkWord b tl) (r.advance 1)) (readDiag s.devices a ++ es) := rfl

theorem jumpAbsLast_row (b : Byte) (s : State) (op ic tl th : Byte) (r : Regs) (l : Lines) (a : Long)
    (es : List Diag) :
    busTick (jumpAbsLast b (readState s op ic tl th r l a es)) =
      closedState s op tl th { r with pc := mkLong (bankOf r.pc) (mkWord b tl) } (readDiag s.devices a ++ es) := rfl

theorem jumpLongLast_row (b : Byte) (s : State) (op ic tl th : Byte) (r : Regs) (l : Lines) (a : Long)
    (es : List Diag) :
    busTick (jumpLongLast b (readState s op ic tl th r l a es)) =
      closedState s op tl th { r with pc := mkLong b (mkWord th tl) } (readDiag s.devices a ++ es) := rfl

/-! ### Whole patterns without a store -/

/-- IMPLIED2 (R140). -/
theorem implied2_spec (opcode : Byte) (f : Regs → Regs) (s : State) :
    implied2 opcode (onRegs f) s =
      closedState s opcode s.seq.tl s.seq.th (f (s.regs.advance 1)) (readEvents s 1) := by
  simp only [implied2, runClocks, openInternal_row, impliedLast_row, readEvents]

/-- IMPLIED2 with the operation of XCE, which also drives the `E` line (R140, R172). -/
theorem implied2_driveE_spec (opcode : Byte) (f : Regs → Regs) (s : State) :
    implied2 opcode (fun t => driveE (onRegs f t)) s =
      driveE (closedState s opcode s.seq.tl s.seq.th (f (s.regs.advance 1)) (readEvents s 1)) := by
  simp only [implied2, runClocks, openInternal_row, impliedLast_driveE_row, readEvents]

/-- IMMP3 (R141). -/
theorem immp3_spec (opcode : Byte) (f : Byte → Regs → Regs) (b : Byte) (s : State) :
    immp3 opcode (fun m => onRegs (f m)) b s =
      closedState s opcode b s.seq.th (f b (s.regs.advance 2)) (readEvents s 2) := by
  simp only [immp3, runClocks, openOperand_row, maskLatch_row, maskLast_row, readEvents]
  rfl

/-- IMM with `F = 1` (R143). -/
theorem imm8_spec (opcode : Byte) (f : Byte → Regs → Regs) (b : Byte) (s : State) :
    imm8 opcode (fun v => onRegs (f v)) b s =
      closedState s opcode b s.seq.th (f b (s.regs.advance 2)) (readEvents s 1) := by
  simp only [imm8, runClocks, openOperand_row, immLast8_row, readEvents]
  rfl

/-- IMM with `F = 0` (R143). -/
theorem imm16_spec (opcode : Byte) (f : Word → Regs → Regs) (w : Word) (s : State) :
    imm16 opcode (fun v => onRegs (f v)) w s =
      closedState s opcode (loByte w) (hiByte w) (f w (s.regs.advance 3)) (readEvents s 2) := by
  simp only [imm16, runClocks, openOperand_row, operandLow_row, immLast16_row, readEvents, mkWord_hi_lo]
  rfl

/-- JMPABS (R144). -/
theorem jmpAbs_spec (opcode : Byte) (w : Word) (s : State) :
    jmpAbs opcode w s =
      closedState s opcode (loByte w) s.seq.th { s.regs with pc := mkLong (bankOf s.regs.pc) w }
        (readEvents s 2) := by
  simp only [jmpAbs, runClocks, openOperand_row, operandLow_row, jumpAbsLast_row, readEvents, mkWord_hi_lo,
    Regs.advance, bankOf_codeAddr]
  rfl

/-- JMPLONG (R145). -/
theorem jmpLong_spec (opcode : Byte) (l : Long) (s : State) :
    jmpLong opcode l s =
      closedState s opcode (loByte (offOf l)) (hiByte (offOf l)) { s.regs with pc := l } (readEvents s 3) := by
  simp only [jmpLong, runClocks, openOperand_row, operandLow_row, operandHigh_row, jumpLongLast_row, readEvents,
    mkWord_hi_lo, mkLong_bank_off, Regs.advance]
  rfl

/-- The hold of HALT3 (R147): `ic = 2`, the lines INTERNAL and `address_out = PC`. -/
def heldState (s : State) (op : Byte) (es : List Diag) : State :=
  readState s op 2 s.seq.tl s.seq.th (s.regs.advance 1) .internal (codeAddr s.regs.pc 1) es

theorem haltHold_row (s : State) (op ic tl th : Byte) (r : Regs) (l : Lines) (a : Long) (es : List Diag) :
    busTick (haltHold (readState s op ic tl th r l a es)) =
      readState s op 2 tl th r .internal r.pc (readDiag s.devices a ++ es) := rfl

/-- HALT3 (R147). -/
theorem halt3_spec (opcode : Byte) (s : State) :
    halt3 opcode s =
      heldState s opcode (readDiag s.devices (codeAddr s.regs.pc 1) ++ readEvents s 1) := by
  simp only [halt3, runClocks, openInternal_row, haltHold_row, heldState, readEvents]
  rfl

/-! ### The store -/

/-- The state after a bus tick that wrote `out` at `a`, the devices being `ds` before the write. -/
def wroteState (s : State) (op ic tl th out : Byte) (r : Regs) (a : Long) (ds : List Device) (es : List Diag) :
    State where
  params := s.params
  regs := r
  seq := { s.seq with ir := op, ic := ic, tl := tl, th := th, dataOut := out, dataIn := s.seq.dataIn }
  pins := { s.pins with addressOut := a, ctl := .dataWrite, phi2 := false }
  devices := busWrite ds a out
  diag := writeDiag ds a out ++ es
  hostResb := s.hostResb

/-- The state of a completed store: as `closedState`, over the devices `ds` after the writes and the byte `out` last
put on `data_out`. -/
def storedState (s : State) (op tl th out : Byte) (ds : List Device) (es : List Diag) : State where
  params := s.params
  regs := s.regs.advance 3
  seq := { s.seq with
    ir := op, ic := 0, tl := tl, th := th, dataOut := out, dataIn := busRead s.params.unclaimedRead ds (codeAddr s.regs.pc 3) }
  pins := { s.pins with addressOut := codeAddr s.regs.pc 3, ctl := .fetchOpcode, phi2 := false }
  devices := ds
  diag := readDiag ds (codeAddr s.regs.pc 3) ++ es
  hostResb := s.hostResb

theorem storeLow_row (b : Byte) (s : State) (op ic tl th : Byte) (r : Regs) (l : Lines) (a : Long)
    (es : List Diag) :
    busTick (storeLow b (readState s op ic tl th r l a es)) =
      wroteState (readState s op ic tl th r l a es) op 3 tl b r.al (r.advance 1)
        (absoluteEa r.dbr (mkWord b tl)) s.devices (readDiag s.devices a ++ es) := rfl

theorem storeHigh_row (s : State) (op ic tl th out : Byte) (r : Regs) (a : Long) (ds : List Device)
    (es : List Diag) :
    busTick (storeHigh (wroteState s op ic tl th out r a ds es)) =
      wroteState s op 4 tl th r.ah r (nextDataAddr a) (busWrite ds a out) (writeDiag ds a out ++ es) := rfl

theorem closeInstr_row (s : State) (op ic tl th out : Byte) (r : Regs) (a : Long) (ds : List Device)
    (es : List Diag) :
    busTick (closeInstr (wroteState s op ic tl th out r a ds es)) =
      { params := s.params
        regs := r
        seq := { s.seq with
          ir := op, ic := 0, tl := tl, th := th, dataOut := out, dataIn := busRead s.params.unclaimedRead (busWrite ds a out) r.pc }
        pins := { s.pins with addressOut := r.pc, ctl := .fetchOpcode, phi2 := false }
        devices := busWrite ds a out
        diag := readDiag (busWrite ds a out) r.pc ++ (writeDiag ds a out ++ es)
        hostResb := s.hostResb } := rfl

/-- ABSWRITE with `P.M = 1` (R146): one byte written. -/
theorem absWrite8_spec (opcode : Byte) (w : Word) (s : State) (h : s.regs.p.m = true) :
    absWrite opcode w s =
      storedState s opcode (loByte w) (hiByte w) s.regs.al
        (busWrite s.devices (absoluteEa s.regs.dbr w) s.regs.al)
        (writeDiag s.devices (absoluteEa s.regs.dbr w) s.regs.al ++ readEvents s 2) := by
  unfold absWrite
  rw [if_pos h]
  simp only [runClocks, openOperand_row, operandLow_row, storeLow_row, closeInstr_row, readEvents, mkWord_hi_lo,
    Regs.advance]
  rfl

/-- ABSWRITE with `P.M = 0` (R146): the low byte, then the high byte at the next address. -/
theorem absWrite16_spec (opcode : Byte) (w : Word) (s : State) (h : s.regs.p.m = false) :
    absWrite opcode w s =
      storedState s opcode (loByte w) (hiByte w) s.regs.ah
        (busWrite (busWrite s.devices (absoluteEa s.regs.dbr w) s.regs.al)
          (nextDataAddr (absoluteEa s.regs.dbr w)) s.regs.ah)
        (writeDiag (busWrite s.devices (absoluteEa s.regs.dbr w) s.regs.al)
            (nextDataAddr (absoluteEa s.regs.dbr w)) s.regs.ah ++
          (writeDiag s.devices (absoluteEa s.regs.dbr w) s.regs.al ++ readEvents s 2)) := by
  unfold absWrite
  rw [if_neg (by simp [h])]
  simp only [runClocks, openOperand_row, operandLow_row, storeLow_row, storeHigh_row, closeInstr_row, readEvents,
    mkWord_hi_lo, Regs.advance]
  rfl

/-! ### IMM -/

/-- IMM: the operand of the width the flag selects, or a refusal (R103, R143). -/
theorem immediate_next {opcode : Byte} {narrow : Bool} {op8 : Byte → State → State} {op16 : Word → State → State}
    {imm : Imm} {s t : State} (h : immediate opcode narrow op8 op16 imm s = .next t) :
    (∃ v, narrow = true ∧ imm = .b8 v ∧ t = imm8 opcode op8 v s) ∨
    (∃ w, narrow = false ∧ imm = .w16 w ∧ t = imm16 opcode op16 w s) := by
  cases narrow <;> cases imm <;> simp only [immediate, Host.Outcome.next.injEq, reduceCtorEq] at h
  · exact .inr ⟨_, rfl, rfl, h.symm⟩
  · exact .inl ⟨_, rfl, rfl, h.symm⟩

end Sys2Proof.Machine
end

