-- ==== Sys2Proof/Laws/Cycle.lean ====
section
/-!
SUPPORT. Laws/Cycle.lean: everything one clock can do, said once (spec/40_cycle_engine.md R131 to R147): the inversion of the
dispatch into the rows of the cycle patterns, and of `Clock()` into its cases.
-/

namespace Sys2Proof.Machine

/-- What every operation on registers that a last row performs has in common: it leaves the `PC`, the mode and the
registers no instruction writes, and keeps the width invariants (R22, R31). -/
structure RegisterOp (f : Regs → Regs) : Prop where
  pc : ∀ r, (f r).pc = r.pc
  epE : ∀ r, (f r).epE = r.epE
  fixed : ∀ r, (f r).epB = r.epB ∧ (f r).d = r.d ∧ (f r).sp = r.sp ∧ (f r).dbr = r.dbr
  widths : ∀ r, WidthsHold r → WidthsHold (f r)

/-- An operation that writes neither a width flag nor an index register. -/
theorem RegisterOp.of_plain {f : Regs → Regs} (hpc : ∀ r, (f r).pc = r.pc) (he : ∀ r, (f r).epE = r.epE)
    (hfix : ∀ r, (f r).epB = r.epB ∧ (f r).d = r.d ∧ (f r).sp = r.sp ∧ (f r).dbr = r.dbr)
    (hm : ∀ r, (f r).p.m = r.p.m) (hx : ∀ r, (f r).p.x = r.p.x)
    (hi : ∀ r, WidthsHold r → r.p.x = true → (f r).xh = 0 ∧ (f r).yh = 0) : RegisterOp f where
  pc := hpc
  epE := he
  fixed := hfix
  widths r h := ⟨fun e => hi r h (hx r ▸ e), fun e => by rw [hm, hx]; exact h.2 (he r ▸ e)⟩

theorem opClc_op : RegisterOp fun r => { r with p := { r.p with c := false } } :=
  .of_plain (fun _ => rfl) (fun _ => rfl) (fun _ => ⟨rfl, rfl, rfl, rfl⟩) (fun _ => rfl) (fun _ => rfl) fun _ h => h.1

theorem opSec_op : RegisterOp fun r => { r with p := { r.p with c := true } } :=
  .of_plain (fun _ => rfl) (fun _ => rfl) (fun _ => ⟨rfl, rfl, rfl, rfl⟩) (fun _ => rfl) (fun _ => rfl) fun _ h => h.1

theorem id_op : RegisterOp id := ⟨fun _ => rfl, fun _ => rfl, fun _ => ⟨rfl, rfl, rfl, rfl⟩, fun _ => id⟩

/-- Writing `X` at the index width keeps the high byte in the 8-bit case. -/
theorem putX_op (r8 : Regs → Byte) (r16 : Regs → Word) : RegisterOp fun r => r.putX (r8 r) (r16 r) := by
  refine .of_plain (fun _ => rfl) (fun _ => rfl) (fun _ => ⟨rfl, rfl, rfl, rfl⟩) (fun r => ?_) (fun r => ?_)
    fun r h e => ?_
  · show (indexResult r.p r.x (r8 r) (r16 r)).2.m = _; unfold indexResult; split <;> rfl
  · show (indexResult r.p r.x (r8 r) (r16 r)).2.x = _; unfold indexResult; split <;> rfl
  · refine ⟨?_, (h.1 e).2⟩
    show hiByte (indexResult r.p r.x (r8 r) (r16 r)).1 = 0
    unfold indexResult
    rw [if_pos e]
    exact (hiByte_withLow _ _).trans (h.1 e).1

/-- Writing `Y` at the index width keeps the high byte in the 8-bit case. -/
theorem putY_op (r8 : Regs → Byte) (r16 : Regs → Word) : RegisterOp fun r => r.putY (r8 r) (r16 r) := by
  refine .of_plain (fun _ => rfl) (fun _ => rfl) (fun _ => ⟨rfl, rfl, rfl, rfl⟩) (fun r => ?_) (fun r => ?_)
    fun r h e => ?_
  · show (indexResult r.p r.y (r8 r) (r16 r)).2.m = _; unfold indexResult; split <;> rfl
  · show (indexResult r.p r.y (r8 r) (r16 r)).2.x = _; unfold indexResult; split <;> rfl
  · refine ⟨(h.1 e).1, ?_⟩
    show hiByte (indexResult r.p r.y (r8 r) (r16 r)).1 = 0
    unfold indexResult
    rw [if_pos e]
    exact (hiByte_withLow _ _).trans (h.1 e).2

/-- REP keeps the width invariants: in emulation mode it cannot clear a width flag (R173). -/
theorem clearBits_op (mask : Byte) : RegisterOp (clearBits mask) where
  pc _ := rfl
  epE _ := rfl
  fixed _ := ⟨rfl, rfl, rfl, rfl⟩
  widths r h := by
    have he : r.epE = true → (clearBits mask r).p.m = true ∧ (clearBits mask r).p.x = true := fun e => by
      simp only [clearBits, e, if_true]; exact ⟨rfl, rfl⟩
    refine ⟨fun e => h.1 ?_, he⟩
    rcases Bool.eq_false_or_eq_true r.epE with hE | hE
    · exact (h.2 hE).2
    · simp only [clearBits, hE, Bool.false_eq_true, if_false, Status.clearMask, Status.ofByte] at e
      have : r.p.toByte.getLsbD 4 = true := by
        rw [BitVec.getLsbD_and, Bool.and_eq_true] at e; exact e.1
      have h4 : (Status.ofByte r.p.toByte).x = true := this
      rwa [Status.ofByte_toByte] at h4

/-- The registers after SEP (R174). -/
theorem setBits_eq (mask : Byte) (r : Regs) : ∃ q : Status,
    (q = if r.epE then (r.p.setMask mask).forceNarrow else r.p.setMask mask) ∧
    setBits mask r = { r with
      p := q, x := if q.x then mkWord 0x00 r.xl else r.x, y := if q.x then mkWord 0x00 r.yl else r.y } := by
  refine ⟨_, rfl, ?_⟩
  unfold setBits
  rcases Bool.eq_false_or_eq_true r.epE with hE | hE
  · simp [hE, Regs.clearIndexHigh, Regs.xl, Regs.yl, Status.forceNarrow]
  · rcases Bool.eq_false_or_eq_true (r.p.setMask mask).x with hx | hx <;>
      simp [hE, hx, Regs.clearIndexHigh, Regs.xl, Regs.yl]

/-- SEP keeps the width invariants: it clears the index high bytes when X is 1 (R174). -/
theorem setBits_op (mask : Byte) : RegisterOp (setBits mask) where
  pc r := by obtain ⟨q, -, e⟩ := setBits_eq mask r; rw [e]
  epE r := by obtain ⟨q, -, e⟩ := setBits_eq mask r; rw [e]
  fixed r := by obtain ⟨q, -, e⟩ := setBits_eq mask r; rw [e]; exact ⟨rfl, rfl, rfl, rfl⟩
  widths r h := by
    obtain ⟨q, hq, e⟩ := setBits_eq mask r
    rw [e]
    refine ⟨fun hx => ?_, fun hE => ?_⟩
    · simp only at hx
      simp [hx, Regs.xh, Regs.yh]
    · simp only at hE ⊢
      rw [hq, if_pos hE]; exact ⟨rfl, rfl⟩

theorem opAdc8_op (corner : Bool) (v : Byte) :
    RegisterOp fun r => { r with a := withLow r.a (adcResult r.al v r.p.c), p := r.p.adc corner r.al v } :=
  .of_plain (fun _ => rfl) (fun _ => rfl) (fun _ => ⟨rfl, rfl, rfl, rfl⟩) (fun _ => rfl) (fun _ => rfl) fun _ h => h.1

theorem opAdc16_op (corner : Bool) (v : Word) :
    RegisterOp fun r => { r with a := adcResult r.a v r.p.c, p := r.p.adc corner r.a v } :=
  .of_plain (fun _ => rfl) (fun _ => rfl) (fun _ => ⟨rfl, rfl, rfl, rfl⟩) (fun _ => rfl) (fun _ => rfl) fun _ h => h.1

theorem opLda8_op (v : Byte) : RegisterOp fun r => { r with a := withLow r.a v, p := r.p.nz8 v } :=
  .of_plain (fun _ => rfl) (fun _ => rfl) (fun _ => ⟨rfl, rfl, rfl, rfl⟩) (fun _ => rfl) (fun _ => rfl) fun _ h => h.1

theorem opLda16_op (v : Word) : RegisterOp fun r => { r with a := v, p := r.p.nz16 v } :=
  .of_plain (fun _ => rfl) (fun _ => rfl) (fun _ => ⟨rfl, rfl, rfl, rfl⟩) (fun _ => rfl) (fun _ => rfl) fun _ h => h.1

theorem opLdx8_op (v : Byte) : RegisterOp fun r => { r with x := withLow r.x v, p := r.p.nz8 v } :=
  .of_plain (fun _ => rfl) (fun _ => rfl) (fun _ => ⟨rfl, rfl, rfl, rfl⟩) (fun _ => rfl) (fun _ => rfl)
    fun _ h e => ⟨(hiByte_withLow _ _).trans (h.1 e).1, (h.1 e).2⟩

theorem opLdy8_op (v : Byte) : RegisterOp fun r => { r with y := withLow r.y v, p := r.p.nz8 v } :=
  .of_plain (fun _ => rfl) (fun _ => rfl) (fun _ => ⟨rfl, rfl, rfl, rfl⟩) (fun _ => rfl) (fun _ => rfl)
    fun _ h e => ⟨(h.1 e).1, (hiByte_withLow _ _).trans (h.1 e).2⟩

/-- The operations of an immediate instruction: at 16 bits an index register is loaded whole, which keeps the width
invariant because the path is taken with `P.X = 0` (R139, R143). -/
structure ImmediateOps (ir : Byte) (flag : Status → Bool) (f8 : Byte → Regs → Regs) (f16 : Word → Regs → Regs) :
    Prop where
  flag : (flag = Status.m ∧ (ir = 0x69 ∨ ir = 0xA9)) ∨ (flag = Status.x ∧ (ir = 0xA2 ∨ ir = 0xA0))
  narrow : ∀ v, RegisterOp (f8 v)
  pc : ∀ v r, (f16 v r).pc = r.pc
  epE : ∀ v r, (f16 v r).epE = r.epE
  fixed : ∀ v r, (f16 v r).epB = r.epB ∧ (f16 v r).d = r.d ∧ (f16 v r).sp = r.sp ∧ (f16 v r).dbr = r.dbr
  widths : ∀ v r, (ir = 0xA2 ∨ ir = 0xA0 → r.p.x = false) → WidthsHold r → WidthsHold (f16 v r)

/-- The handlers of the twenty admitted opcodes, by cycle pattern. -/
inductive HandlerCase (ir : Byte) : Handler → Prop
  | implied2 (f : Regs → Regs) (hf : RegisterOp f) (rows : patternRows ir = 2) :
      HandlerCase ir (implied2Rows (onRegs f))
  | xce (hi : ir = 0xFB) : HandlerCase ir (implied2Rows opXce)
  | immp3 (f : Byte → Regs → Regs) (hf : ∀ m, RegisterOp (f m)) (hi : ir = 0xC2 ∨ ir = 0xE2) :
      HandlerCase ir (immp3Rows fun m => onRegs (f m))
  | imm (flag : Status → Bool) (f8 : Byte → Regs → Regs) (f16 : Word → Regs → Regs)
      (hf : ImmediateOps ir flag f8 f16) :
      HandlerCase ir (immRows flag (fun v => onRegs (f8 v)) (fun v => onRegs (f16 v)))
  | absWrite (hi : ir = 0x8D) : HandlerCase ir absWriteRows
  | jmpAbs (hi : ir = 0x4C) : HandlerCase ir jmpAbsRows
  | jmpLong (hi : ir = 0x5C) : HandlerCase ir jmpLongRows
  | halt3 (hi : ir = 0xDB ∨ ir = 0xCB) : HandlerCase ir halt3Rows

theorem of_ite_eq {α : Type} {c : Prop} [Decidable c] {a b x : α} (h : (if c then a else b) = x) :
    (c ∧ a = x) ∨ (¬ c ∧ b = x) := by
  by_cases hc : c
  · exact .inl ⟨hc, by rwa [if_pos hc] at h⟩
  · exact .inr ⟨hc, by rwa [if_neg hc] at h⟩

/-- A handler that is present is one of the twenty the spec defines (R106). -/
theorem handlerOf_some {p : Config.Params} {ir : Byte} {h : Handler} :
    handlerOf p ir = some h ↔ p.implements ir = true ∧ rowsOf p.adcCarryCorner ir = some h := by
  unfold handlerOf; split <;> simp_all

/-- The inversion of the twenty handlers. -/
theorem rowsOf_cases {corner : Bool} {ir : Byte} {h : Handler} (e : rowsOf corner ir = some h) : HandlerCase ir h := by
  rw [rowsOf] at e
  obtain ⟨hi, e⟩ | ⟨-, e⟩ := of_ite_eq e
  · subst hi; cases e; exact .implied2 _ opClc_op rfl
  obtain ⟨hi, e⟩ | ⟨-, e⟩ := of_ite_eq e
  · subst hi; cases e; exact .implied2 _ opSec_op rfl
  obtain ⟨hi, e⟩ | ⟨-, e⟩ := of_ite_eq e
  · cases e; exact .xce hi
  obtain ⟨hi, e⟩ | ⟨-, e⟩ := of_ite_eq e
  · cases e; exact .immp3 clearBits clearBits_op (.inl hi)
  obtain ⟨hi, e⟩ | ⟨-, e⟩ := of_ite_eq e
  · cases e; exact .immp3 setBits setBits_op (.inr hi)
  obtain ⟨hi, e⟩ | ⟨-, e⟩ := of_ite_eq e
  · subst hi; cases e
    exact .imm _ _ _ ⟨.inl ⟨rfl, .inl rfl⟩, opAdc8_op _, fun _ _ => rfl, fun _ _ => rfl, fun _ _ => ⟨rfl, rfl, rfl, rfl⟩,
      fun v r _ h => (opAdc16_op _ v).widths r h⟩
  obtain ⟨hi, e⟩ | ⟨-, e⟩ := of_ite_eq e
  · subst hi; cases e
    exact .imm _ _ _ ⟨.inl ⟨rfl, .inr rfl⟩, opLda8_op, fun _ _ => rfl, fun _ _ => rfl, fun _ _ => ⟨rfl, rfl, rfl, rfl⟩,
      fun v r _ h => (opLda16_op v).widths r h⟩
  obtain ⟨hi, e⟩ | ⟨-, e⟩ := of_ite_eq e
  · subst hi; cases e
    exact .imm _ _ _ ⟨.inr ⟨rfl, .inl rfl⟩, opLdx8_op, fun _ _ => rfl, fun _ _ => rfl, fun _ _ => ⟨rfl, rfl, rfl, rfl⟩,
      fun v r hx h => ⟨fun e => absurd ((hx (.inl rfl)).symm.trans e) nofun, h.2⟩⟩
  obtain ⟨hi, e⟩ | ⟨-, e⟩ := of_ite_eq e
  · subst hi; cases e
    exact .imm _ _ _ ⟨.inr ⟨rfl, .inr rfl⟩, opLdy8_op, fun _ _ => rfl, fun _ _ => rfl, fun _ _ => ⟨rfl, rfl, rfl, rfl⟩,
      fun v r hx h => ⟨fun e => absurd ((hx (.inr rfl)).symm.trans e) nofun, h.2⟩⟩
  obtain ⟨hi, e⟩ | ⟨-, e⟩ := of_ite_eq e
  · cases e; exact .absWrite hi
  obtain ⟨hi, e⟩ | ⟨-, e⟩ := of_ite_eq e
  · cases e; exact .jmpAbs hi
  obtain ⟨hi, e⟩ | ⟨-, e⟩ := of_ite_eq e
  · cases e; exact .jmpLong hi
  obtain ⟨hi, e⟩ | ⟨-, e⟩ := of_ite_eq e
  · subst hi; cases e; exact .implied2 _ (putX_op (fun r => r.xl + 1) (fun r => r.x + 1)) rfl
  obtain ⟨hi, e⟩ | ⟨-, e⟩ := of_ite_eq e
  · subst hi; cases e; exact .implied2 _ (putY_op (fun r => r.yl + 1) (fun r => r.y + 1)) rfl
  obtain ⟨hi, e⟩ | ⟨-, e⟩ := of_ite_eq e
  · subst hi; cases e; exact .implied2 _ (putX_op (fun r => r.xl - 1) (fun r => r.x - 1)) rfl
  obtain ⟨hi, e⟩ | ⟨-, e⟩ := of_ite_eq e
  · subst hi; cases e; exact .implied2 _ (putY_op (fun r => r.yl - 1) (fun r => r.y - 1)) rfl
  obtain ⟨hi, e⟩ | ⟨-, e⟩ := of_ite_eq e
  · subst hi; cases e; exact .implied2 _ (putX_op (fun r => r.al) (fun r => r.a)) rfl
  obtain ⟨hi, e⟩ | ⟨-, e⟩ := of_ite_eq e
  · subst hi; cases e; exact .implied2 _ id_op rfl
  obtain ⟨hi, e⟩ | ⟨-, e⟩ := of_ite_eq e
  · cases e; exact .halt3 (.inl hi)
  obtain ⟨hi, e⟩ | ⟨-, e⟩ := of_ite_eq e
  · cases e; exact .halt3 (.inr hi)
  · cases e

/-- The inversion of the dispatch table. -/
theorem handlerOf_cases {p : Config.Params} {ir : Byte} {h : Handler} (e : handlerOf p ir = some h) :
    p.implements ir = true ∧ HandlerCase ir h := ⟨(handlerOf_some.mp e).1, rowsOf_cases (handlerOf_some.mp e).2⟩

/-- The opcode latched when `ic = 0` (R131 case 3). -/
def latched (s : State) : State := if s.seq.ic = 0 then latchIr s.seq.dataIn s else s

/-- What one `Clock()` that answers a next state did (R131, R132, R133). -/
theorem clock_next {s t : State} (h : clock s = .next t) :
    (s.pins.resb = false ∧ t = resetHold (setPhi2 true s)) ∨
    (s.pins.resb = true ∧ 2 ≤ s.seq.rlc ∧ t = resetRelease (setPhi2 true s)) ∨
    (s.pins.resb = true ∧ s.seq.rlc = 0 ∧
      ∃ g, handlerOf (latched (setPhi2 true s)).params (latched (setPhi2 true s)).seq.ir = some g ∧ g (latched (setPhi2 true s)) = some t) := by
  unfold clock at h
  simp only at h
  split at h
  · rename_i hr; cases h; exact .inl ⟨hr, rfl⟩
  · rename_i hr
    have hr : s.pins.resb = true := by simpa [setPhi2] using hr
    split at h
    · split at h
      · rename_i h2; cases h; exact .inr (.inl ⟨hr, h2, rfl⟩)
      · cases h
    · rename_i h0
      refine .inr (.inr ⟨hr, by simpa [setPhi2] using h0, ?_⟩)
      unfold dispatchClock at h
      simp only at h
      change (match handlerOf (latched (setPhi2 true s)).params (latched (setPhi2 true s)).seq.ir with
        | none => nullHandler placeholderTreatment (latched (setPhi2 true s))
        | some h =>
          match h (latched (setPhi2 true s)) with
          | some t => .next t
          | none => .fault (.noMicroStep (latched (setPhi2 true s)).seq.ir (latched (setPhi2 true s)).seq.ic)) = _ at h
      split at h
      · cases h
      · rename_i g hg
        split at h
        · rename_i u hu
          cases h; exact ⟨g, hg, hu⟩
        · cases h

/-- What one cycle that answers a next state did. -/
theorem cycle_next {s t : State} (h : cycle s = .next t) : ∃ u, clock s = .next u ∧ t = hostMove (busTick u) := by
  unfold cycle at h
  split at h
  · rename_i u hu; cases h; exact ⟨u, hu, rfl⟩
  · cases h
  · cases h

/-- A clock that finds RESB high and no reset under way runs the row its handler gives (R131). -/
theorem cycle_row {s u : State} {g : Handler} (hr : s.pins.resb = true) (h0 : s.seq.rlc = 0)
    (hg : handlerOf (latched (setPhi2 true s)).params (latched (setPhi2 true s)).seq.ir = some g) (hu : g (latched (setPhi2 true s)) = some u) :
    cycle s = .next (hostMove (busTick u)) := by
  have hd : dispatchClock (setPhi2 true s) = .next u := by
    unfold dispatchClock
    change (match handlerOf (latched (setPhi2 true s)).params (latched (setPhi2 true s)).seq.ir with
      | none => nullHandler placeholderTreatment (latched (setPhi2 true s))
      | some h =>
        match h (latched (setPhi2 true s)) with
        | some t => .next t
        | none => .fault (.noMicroStep (latched (setPhi2 true s)).seq.ir (latched (setPhi2 true s)).seq.ic)) = _
    rw [hg]
    simp only
    rw [hu]
  have hc : clock s = .next u := by
    unfold clock
    simp only
    rw [if_neg (by simp [setPhi2, hr]), if_neg (by simp [setPhi2, h0]), hd]
  unfold cycle
  rw [hc]

/-- What `k` moves of the host can change: the level of RESB and the schedule; RESB stays high while the schedule says
so (R72). -/
theorem hostMoves_eq (s : State) (k : Nat) :
    ∃ l r, hostMoves k s = { s with pins := { s.pins with resb := r }, hostResb := l } ∧
      (s.pins.resb = true → (∀ b ∈ s.hostResb.take k, b = true) → r = true) := by
  induction k generalizing s with
  | zero => exact ⟨_, _, rfl, fun h _ => h⟩
  | succ k ih =>
    obtain ⟨l, r, e, hr⟩ := ih (hostMove s)
    refine ⟨l, r, ?_, fun h1 h2 => hr ?_ ?_⟩
    · show hostMoves k (hostMove s) = _
      rw [e]; unfold hostMove; split <;> rfl
    · unfold hostMove; split
      · exact h1
      · rename_i b bs hb; rw [hb] at h2; exact h2 b (by simp)
    · unfold hostMove; split
      · rename_i hb; rw [hb]; simp
      · rename_i b bs hb; rw [hb] at h2; intro c hc; exact h2 c (by simp at hc ⊢; right; exact hc)

/-- A row that neither reads nor writes the host's side: run between two moves of the host, it gives what it gives
without them. -/
def HostBlind (row : State → State) : Prop :=
  ∀ s r l ph, busTick (row { s with pins := { s.pins with resb := r, phi2 := ph }, hostResb := l }) =
    { busTick (row s) with pins := { (busTick (row s)).pins with resb := r }, hostResb := l }

theorem closeInstr_blind : HostBlind closeInstr := fun _ _ _ _ => rfl
theorem openOperand_blind (op : Byte) : HostBlind fun s => openOperand (latchIr op s) := fun _ _ _ _ => rfl
theorem openInternal_blind (op : Byte) : HostBlind fun s => openInternal (latchIr op s) := fun _ _ _ _ => rfl
theorem impliedLast_blind (f : Regs → Regs) : HostBlind (impliedLast (onRegs f)) := fun _ _ _ _ => rfl
theorem impliedLast_xce_blind : HostBlind (impliedLast opXce) := fun _ _ _ _ => rfl
theorem maskLatch_blind (b : Byte) : HostBlind (maskLatch b) := fun _ _ _ _ => rfl
theorem maskLast_blind (f : Byte → Regs → Regs) : HostBlind (maskLast fun m => onRegs (f m)) := fun _ _ _ _ => rfl
theorem immLast8_blind (f : Byte → Regs → Regs) (b : Byte) : HostBlind (immLast8 (fun v => onRegs (f v)) b) :=
  fun _ _ _ _ => rfl
theorem operandLow_blind (b : Byte) : HostBlind (operandLow b) := fun _ _ _ _ => rfl
theorem immLast16_blind (f : Word → Regs → Regs) (b : Byte) : HostBlind (immLast16 (fun v => onRegs (f v)) b) :=
  fun _ _ _ _ => rfl
theorem jumpAbsLast_blind (b : Byte) : HostBlind (jumpAbsLast b) := fun _ _ _ _ => rfl
theorem operandHigh_blind (b : Byte) : HostBlind (operandHigh b) := fun _ _ _ _ => rfl
theorem jumpLongLast_blind (b : Byte) : HostBlind (jumpLongLast b) := fun _ _ _ _ => rfl
theorem storeLow_blind (b : Byte) : HostBlind (storeLow b) := fun _ _ _ _ => rfl
theorem storeHigh_blind : HostBlind storeHigh := fun _ _ _ _ => rfl
theorem haltHold_blind : HostBlind haltHold := fun _ _ _ _ => rfl

end Sys2Proof.Machine
end

