-- ==== Sys2Proof/Laws/Decode.lean ====
section
/-!
SUPPORT. Laws/Decode.lean: the decoder row by row of the opcode map (spec/30_encoding.md R105): what it answers has the
opcode it was given, is well-formed, and has the bytes it was given as operand bytes.
-/

namespace Sys2Proof

theorem decodeWindow_row0 (m x : Bool) (b1 b2 b3 : Byte) {b0 : Byte} (h : b0.toNat / 16 = 0) :
    decodeWindow m x b0 b1 b2 b3 = decodeRow0 m x (b0.toNat % 16) b1 b2 b3 := by
  unfold decodeWindow; rw [h]; rfl

theorem decodeWindow_row1 (m x : Bool) (b1 b2 b3 : Byte) {b0 : Byte} (h : b0.toNat / 16 = 1) :
    decodeWindow m x b0 b1 b2 b3 = decodeRow1 m x (b0.toNat % 16) b1 b2 b3 := by
  unfold decodeWindow; rw [h]; rfl

theorem decodeWindow_row2 (m x : Bool) (b1 b2 b3 : Byte) {b0 : Byte} (h : b0.toNat / 16 = 2) :
    decodeWindow m x b0 b1 b2 b3 = decodeRow2 m x (b0.toNat % 16) b1 b2 b3 := by
  unfold decodeWindow; rw [h]; rfl

theorem decodeWindow_row3 (m x : Bool) (b1 b2 b3 : Byte) {b0 : Byte} (h : b0.toNat / 16 = 3) :
    decodeWindow m x b0 b1 b2 b3 = decodeRow3 m x (b0.toNat % 16) b1 b2 b3 := by
  unfold decodeWindow; rw [h]; rfl

theorem decodeWindow_row4 (m x : Bool) (b1 b2 b3 : Byte) {b0 : Byte} (h : b0.toNat / 16 = 4) :
    decodeWindow m x b0 b1 b2 b3 = decodeRow4 m x (b0.toNat % 16) b1 b2 b3 := by
  unfold decodeWindow; rw [h]; rfl

theorem decodeWindow_row5 (m x : Bool) (b1 b2 b3 : Byte) {b0 : Byte} (h : b0.toNat / 16 = 5) :
    decodeWindow m x b0 b1 b2 b3 = decodeRow5 m x (b0.toNat % 16) b1 b2 b3 := by
  unfold decodeWindow; rw [h]; rfl

theorem decodeWindow_row6 (m x : Bool) (b1 b2 b3 : Byte) {b0 : Byte} (h : b0.toNat / 16 = 6) :
    decodeWindow m x b0 b1 b2 b3 = decodeRow6 m x (b0.toNat % 16) b1 b2 b3 := by
  unfold decodeWindow; rw [h]; rfl

theorem decodeWindow_row7 (m x : Bool) (b1 b2 b3 : Byte) {b0 : Byte} (h : b0.toNat / 16 = 7) :
    decodeWindow m x b0 b1 b2 b3 = decodeRow7 m x (b0.toNat % 16) b1 b2 b3 := by
  unfold decodeWindow; rw [h]; rfl

theorem decodeWindow_row8 (m x : Bool) (b1 b2 b3 : Byte) {b0 : Byte} (h : b0.toNat / 16 = 8) :
    decodeWindow m x b0 b1 b2 b3 = decodeRow8 m x (b0.toNat % 16) b1 b2 b3 := by
  unfold decodeWindow; rw [h]; rfl

theorem decodeWindow_row9 (m x : Bool) (b1 b2 b3 : Byte) {b0 : Byte} (h : b0.toNat / 16 = 9) :
    decodeWindow m x b0 b1 b2 b3 = decodeRow9 m x (b0.toNat % 16) b1 b2 b3 := by
  unfold decodeWindow; rw [h]; rfl

theorem decodeWindow_rowA (m x : Bool) (b1 b2 b3 : Byte) {b0 : Byte} (h : b0.toNat / 16 = 10) :
    decodeWindow m x b0 b1 b2 b3 = decodeRowA m x (b0.toNat % 16) b1 b2 b3 := by
  unfold decodeWindow; rw [h]; rfl

theorem decodeWindow_rowB (m x : Bool) (b1 b2 b3 : Byte) {b0 : Byte} (h : b0.toNat / 16 = 11) :
    decodeWindow m x b0 b1 b2 b3 = decodeRowB m x (b0.toNat % 16) b1 b2 b3 := by
  unfold decodeWindow; rw [h]; rfl

theorem decodeWindow_rowC (m x : Bool) (b1 b2 b3 : Byte) {b0 : Byte} (h : b0.toNat / 16 = 12) :
    decodeWindow m x b0 b1 b2 b3 = decodeRowC m x (b0.toNat % 16) b1 b2 b3 := by
  unfold decodeWindow; rw [h]; rfl

theorem decodeWindow_rowD (m x : Bool) (b1 b2 b3 : Byte) {b0 : Byte} (h : b0.toNat / 16 = 13) :
    decodeWindow m x b0 b1 b2 b3 = decodeRowD m x (b0.toNat % 16) b1 b2 b3 := by
  unfold decodeWindow; rw [h]; rfl

theorem decodeWindow_rowE (m x : Bool) (b1 b2 b3 : Byte) {b0 : Byte} (h : b0.toNat / 16 = 14) :
    decodeWindow m x b0 b1 b2 b3 = decodeRowE m x (b0.toNat % 16) b1 b2 b3 := by
  unfold decodeWindow; rw [h]; rfl

theorem decodeWindow_rowF (m x : Bool) (b1 b2 b3 : Byte) {b0 : Byte} (h : b0.toNat / 16 = 15) :
    decodeWindow m x b0 b1 b2 b3 = decodeRowF m x (b0.toNat % 16) b1 b2 b3 := by
  unfold decodeWindow; rw [h]; rfl

/-- What the decoder owes for the opcode `op` and the bytes after it. -/
def SoundAt (m x : Bool) (op : Nat) (b1 b2 b3 : Byte) (i : Instr) : Prop :=
  WellFormed m x i = true ∧ opcodeByte i = BitVec.ofNat 8 op ∧ operandBytes i <+: [b1, b2, b3]

theorem operandImm_fits (n : Bool) (b1 b2 : Byte) : (operandImm n b1 b2).fits n = true := by cases n <;> rfl

theorem immBytes_operandImm (n : Bool) (b1 b2 b3 : Byte) : immBytes (operandImm n b1 b2) <+: [b1, b2, b3] := by
  cases n <;> simp [operandImm, immBytes, operandWord, List.prefix_iff_eq_take]

theorem wordBytes_operandWord (b1 b2 b3 : Byte) : wordBytes (operandWord b1 b2) <+: [b1, b2, b3] := by
  simp [wordBytes, operandWord, List.prefix_iff_eq_take]

theorem longBytes_operandLong (b1 b2 b3 : Byte) : longBytes (operandLong b1 b2 b3) <+: [b1, b2, b3] := by
  simp [longBytes, operandLong]

theorem singleByte_prefix (b1 b2 b3 : Byte) : [b1] <+: [b1, b2, b3] := ⟨[b2, b3], rfl⟩

theorem decodeRow0_sound (m x : Bool) (b1 b2 b3 : Byte) : ∀ low : Nat, low < 16 →
    SoundAt m x (0 + low) b1 b2 b3 (decodeRow0 m x low b1 b2 b3)
  | 0, _ => ⟨rfl, rfl, singleByte_prefix b1 b2 b3⟩
  | 1, _ => ⟨rfl, rfl, singleByte_prefix b1 b2 b3⟩
  | 2, _ => ⟨rfl, rfl, singleByte_prefix b1 b2 b3⟩
  | 3, _ => ⟨rfl, rfl, singleByte_prefix b1 b2 b3⟩
  | 4, _ => ⟨rfl, rfl, singleByte_prefix b1 b2 b3⟩
  | 5, _ => ⟨rfl, rfl, singleByte_prefix b1 b2 b3⟩
  | 6, _ => ⟨rfl, rfl, singleByte_prefix b1 b2 b3⟩
  | 7, _ => ⟨rfl, rfl, singleByte_prefix b1 b2 b3⟩
  | 8, _ => ⟨rfl, rfl, List.nil_prefix⟩
  | 9, _ => ⟨operandImm_fits m b1 b2, rfl, immBytes_operandImm m b1 b2 b3⟩
  | 10, _ => ⟨rfl, rfl, List.nil_prefix⟩
  | 11, _ => ⟨rfl, rfl, List.nil_prefix⟩
  | 12, _ => ⟨rfl, rfl, wordBytes_operandWord b1 b2 b3⟩
  | 13, _ => ⟨rfl, rfl, wordBytes_operandWord b1 b2 b3⟩
  | 14, _ => ⟨rfl, rfl, wordBytes_operandWord b1 b2 b3⟩
  | 15, _ => ⟨rfl, rfl, longBytes_operandLong b1 b2 b3⟩
  | _ + 16, h => absurd h (by omega)

theorem decodeRow1_sound (m x : Bool) (b1 b2 b3 : Byte) : ∀ low : Nat, low < 16 →
    SoundAt m x (16 + low) b1 b2 b3 (decodeRow1 m x low b1 b2 b3)
  | 0, _ => ⟨rfl, rfl, singleByte_prefix b1 b2 b3⟩
  | 1, _ => ⟨rfl, rfl, singleByte_prefix b1 b2 b3⟩
  | 2, _ => ⟨rfl, rfl, singleByte_prefix b1 b2 b3⟩
  | 3, _ => ⟨rfl, rfl, singleByte_prefix b1 b2 b3⟩
  | 4, _ => ⟨rfl, rfl, singleByte_prefix b1 b2 b3⟩
  | 5, _ => ⟨rfl, rfl, singleByte_prefix b1 b2 b3⟩
  | 6, _ => ⟨rfl, rfl, singleByte_prefix b1 b2 b3⟩
  | 7, _ => ⟨rfl, rfl, singleByte_prefix b1 b2 b3⟩
  | 8, _ => ⟨rfl, rfl, List.nil_prefix⟩
  | 9, _ => ⟨rfl, rfl, wordBytes_operandWord b1 b2 b3⟩
  | 10, _ => ⟨rfl, rfl, List.nil_prefix⟩
  | 11, _ => ⟨rfl, rfl, List.nil_prefix⟩
  | 12, _ => ⟨rfl, rfl, wordBytes_operandWord b1 b2 b3⟩
  | 13, _ => ⟨rfl, rfl, wordBytes_operandWord b1 b2 b3⟩
  | 14, _ => ⟨rfl, rfl, wordBytes_operandWord b1 b2 b3⟩
  | 15, _ => ⟨rfl, rfl, longBytes_operandLong b1 b2 b3⟩
  | _ + 16, h => absurd h (by omega)

theorem decodeRow2_sound (m x : Bool) (b1 b2 b3 : Byte) : ∀ low : Nat, low < 16 →
    SoundAt m x (32 + low) b1 b2 b3 (decodeRow2 m x low b1 b2 b3)
  | 0, _ => ⟨rfl, rfl, wordBytes_operandWord b1 b2 b3⟩
  | 1, _ => ⟨rfl, rfl, singleByte_prefix b1 b2 b3⟩
  | 2, _ => ⟨rfl, rfl, longBytes_operandLong b1 b2 b3⟩
  | 3, _ => ⟨rfl, rfl, singleByte_prefix b1 b2 b3⟩
  | 4, _ => ⟨rfl, rfl, singleByte_prefix b1 b2 b3⟩
  | 5, _ => ⟨rfl, rfl, singleByte_prefix b1 b2 b3⟩
  | 6, _ => ⟨rfl, rfl, singleByte_prefix b1 b2 b3⟩
  | 7, _ => ⟨rfl, rfl, singleByte_prefix b1 b2 b3⟩
  | 8, _ => ⟨rfl, rfl, List.nil_prefix⟩
  | 9, _ => ⟨operandImm_fits m b1 b2, rfl, immBytes_operandImm m b1 b2 b3⟩
  | 10, _ => ⟨rfl, rfl, List.nil_prefix⟩
  | 11, _ => ⟨rfl, rfl, List.nil_prefix⟩
  | 12, _ => ⟨rfl, rfl, wordBytes_operandWord b1 b2 b3⟩
  | 13, _ => ⟨rfl, rfl, wordBytes_operandWord b1 b2 b3⟩
  | 14, _ => ⟨rfl, rfl, wordBytes_operandWord b1 b2 b3⟩
  | 15, _ => ⟨rfl, rfl, longBytes_operandLong b1 b2 b3⟩
  | _ + 16, h => absurd h (by omega)

theorem decodeRow3_sound (m x : Bool) (b1 b2 b3 : Byte) : ∀ low : Nat, low < 16 →
    SoundAt m x (48 + low) b1 b2 b3 (decodeRow3 m x low b1 b2 b3)
  | 0, _ => ⟨rfl, rfl, singleByte_prefix b1 b2 b3⟩
  | 1, _ => ⟨rfl, rfl, singleByte_prefix b1 b2 b3⟩
  | 2, _ => ⟨rfl, rfl, singleByte_prefix b1 b2 b3⟩
  | 3, _ => ⟨rfl, rfl, singleByte_prefix b1 b2 b3⟩
  | 4, _ => ⟨rfl, rfl, singleByte_prefix b1 b2 b3⟩
  | 5, _ => ⟨rfl, rfl, singleByte_prefix b1 b2 b3⟩
  | 6, _ => ⟨rfl, rfl, singleByte_prefix b1 b2 b3⟩
  | 7, _ => ⟨rfl, rfl, singleByte_prefix b1 b2 b3⟩
  | 8, _ => ⟨rfl, rfl, List.nil_prefix⟩
  | 9, _ => ⟨rfl, rfl, wordBytes_operandWord b1 b2 b3⟩
  | 10, _ => ⟨rfl, rfl, List.nil_prefix⟩
  | 11, _ => ⟨rfl, rfl, List.nil_prefix⟩
  | 12, _ => ⟨rfl, rfl, wordBytes_operandWord b1 b2 b3⟩
  | 13, _ => ⟨rfl, rfl, wordBytes_operandWord b1 b2 b3⟩
  | 14, _ => ⟨rfl, rfl, wordBytes_operandWord b1 b2 b3⟩
  | 15, _ => ⟨rfl, rfl, longBytes_operandLong b1 b2 b3⟩
  | _ + 16, h => absurd h (by omega)

theorem decodeRow4_sound (m x : Bool) (b1 b2 b3 : Byte) : ∀ low : Nat, low < 16 →
    SoundAt m x (64 + low) b1 b2 b3 (decodeRow4 m x low b1 b2 b3)
  | 0, _ => ⟨rfl, rfl, List.nil_prefix⟩
  | 1, _ => ⟨rfl, rfl, singleByte_prefix b1 b2 b3⟩
  | 2, _ => ⟨rfl, rfl, singleByte_prefix b1 b2 b3⟩
  | 3, _ => ⟨rfl, rfl, singleByte_prefix b1 b2 b3⟩
  | 4, _ => ⟨rfl, rfl, wordBytes_operandWord b1 b2 b3⟩
  | 5, _ => ⟨rfl, rfl, singleByte_prefix b1 b2 b3⟩
  | 6, _ => ⟨rfl, rfl, singleByte_prefix b1 b2 b3⟩
  | 7, _ => ⟨rfl, rfl, singleByte_prefix b1 b2 b3⟩
  | 8, _ => ⟨rfl, rfl, List.nil_prefix⟩
  | 9, _ => ⟨operandImm_fits m b1 b2, rfl, immBytes_operandImm m b1 b2 b3⟩
  | 10, _ => ⟨rfl, rfl, List.nil_prefix⟩
  | 11, _ => ⟨rfl, rfl, List.nil_prefix⟩
  | 12, _ => ⟨rfl, rfl, wordBytes_operandWord b1 b2 b3⟩
  | 13, _ => ⟨rfl, rfl, wordBytes_operandWord b1 b2 b3⟩
  | 14, _ => ⟨rfl, rfl, wordBytes_operandWord b1 b2 b3⟩
  | 15, _ => ⟨rfl, rfl, longBytes_operandLong b1 b2 b3⟩
  | _ + 16, h => absurd h (by omega)

theorem decodeRow5_sound (m x : Bool) (b1 b2 b3 : Byte) : ∀ low : Nat, low < 16 →
    SoundAt m x (80 + low) b1 b2 b3 (decodeRow5 m x low b1 b2 b3)
  | 0, _ => ⟨rfl, rfl, singleByte_prefix b1 b2 b3⟩
  | 1, _ => ⟨rfl, rfl, singleByte_prefix b1 b2 b3⟩
  | 2, _ => ⟨rfl, rfl, singleByte_prefix b1 b2 b3⟩
  | 3, _ => ⟨rfl, rfl, singleByte_prefix b1 b2 b3⟩
  | 4, _ => ⟨rfl, rfl, wordBytes_operandWord b1 b2 b3⟩
  | 5, _ => ⟨rfl, rfl, singleByte_prefix b1 b2 b3⟩
  | 6, _ => ⟨rfl, rfl, singleByte_prefix b1 b2 b3⟩
  | 7, _ => ⟨rfl, rfl, singleByte_prefix b1 b2 b3⟩
  | 8, _ => ⟨rfl, rfl, List.nil_prefix⟩
  | 9, _ => ⟨rfl, rfl, wordBytes_operandWord b1 b2 b3⟩
  | 10, _ => ⟨rfl, rfl, List.nil_prefix⟩
  | 11, _ => ⟨rfl, rfl, List.nil_prefix⟩
  | 12, _ => ⟨rfl, rfl, longBytes_operandLong b1 b2 b3⟩
  | 13, _ => ⟨rfl, rfl, wordBytes_operandWord b1 b2 b3⟩
  | 14, _ => ⟨rfl, rfl, wordBytes_operandWord b1 b2 b3⟩
  | 15, _ => ⟨rfl, rfl, longBytes_operandLong b1 b2 b3⟩
  | _ + 16, h => absurd h (by omega)

theorem decodeRow6_sound (m x : Bool) (b1 b2 b3 : Byte) : ∀ low : Nat, low < 16 →
    SoundAt m x (96 + low) b1 b2 b3 (decodeRow6 m x low b1 b2 b3)
  | 0, _ => ⟨rfl, rfl, List.nil_prefix⟩
  | 1, _ => ⟨rfl, rfl, singleByte_prefix b1 b2 b3⟩
  | 2, _ => ⟨rfl, rfl, wordBytes_operandWord b1 b2 b3⟩
  | 3, _ => ⟨rfl, rfl, singleByte_prefix b1 b2 b3⟩
  | 4, _ => ⟨rfl, rfl, singleByte_prefix b1 b2 b3⟩
  | 5, _ => ⟨rfl, rfl, singleByte_prefix b1 b2 b3⟩
  | 6, _ => ⟨rfl, rfl, singleByte_prefix b1 b2 b3⟩
  | 7, _ => ⟨rfl, rfl, singleByte_prefix b1 b2 b3⟩
  | 8, _ => ⟨rfl, rfl, List.nil_prefix⟩
  | 9, _ => ⟨operandImm_fits m b1 b2, rfl, immBytes_operandImm m b1 b2 b3⟩
  | 10, _ => ⟨rfl, rfl, List.nil_prefix⟩
  | 11, _ => ⟨rfl, rfl, List.nil_prefix⟩
  | 12, _ => ⟨rfl, rfl, wordBytes_operandWord b1 b2 b3⟩
  | 13, _ => ⟨rfl, rfl, wordBytes_operandWord b1 b2 b3⟩
  | 14, _ => ⟨rfl, rfl, wordBytes_operandWord b1 b2 b3⟩
  | 15, _ => ⟨rfl, rfl, longBytes_operandLong b1 b2 b3⟩
  | _ + 16, h => absurd h (by omega)

theorem decodeRow7_sound (m x : Bool) (b1 b2 b3 : Byte) : ∀ low : Nat, low < 16 →
    SoundAt m x (112 + low) b1 b2 b3 (decodeRow7 m x low b1 b2 b3)
  | 0, _ => ⟨rfl, rfl, singleByte_prefix b1 b2 b3⟩
  | 1, _ => ⟨rfl, rfl, singleByte_prefix b1 b2 b3⟩
  | 2, _ => ⟨rfl, rfl, singleByte_prefix b1 b2 b3⟩
  | 3, _ => ⟨rfl, rfl, singleByte_prefix b1 b2 b3⟩
  | 4, _ => ⟨rfl, rfl, singleByte_prefix b1 b2 b3⟩
  | 5, _ => ⟨rfl, rfl, singleByte_prefix b1 b2 b3⟩
  | 6, _ => ⟨rfl, rfl, singleByte_prefix b1 b2 b3⟩
  | 7, _ => ⟨rfl, rfl, singleByte_prefix b1 b2 b3⟩
  | 8, _ => ⟨rfl, rfl, List.nil_prefix⟩
  | 9, _ => ⟨rfl, rfl, wordBytes_operandWord b1 b2 b3⟩
  | 10, _ => ⟨rfl, rfl, List.nil_prefix⟩
  | 11, _ => ⟨rfl, rfl, List.nil_prefix⟩
  | 12, _ => ⟨rfl, rfl, wordBytes_operandWord b1 b2 b3⟩
  | 13, _ => ⟨rfl, rfl, wordBytes_operandWord b1 b2 b3⟩
  | 14, _ => ⟨rfl, rfl, wordBytes_operandWord b1 b2 b3⟩
  | 15, _ => ⟨rfl, rfl, longBytes_operandLong b1 b2 b3⟩
  | _ + 16, h => absurd h (by omega)

theorem decodeRow8_sound (m x : Bool) (b1 b2 b3 : Byte) : ∀ low : Nat, low < 16 →
    SoundAt m x (128 + low) b1 b2 b3 (decodeRow8 m x low b1 b2 b3)
  | 0, _ => ⟨rfl, rfl, singleByte_prefix b1 b2 b3⟩
  | 1, _ => ⟨rfl, rfl, singleByte_prefix b1 b2 b3⟩
  | 2, _ => ⟨rfl, rfl, wordBytes_operandWord b1 b2 b3⟩
  | 3, _ => ⟨rfl, rfl, singleByte_prefix b1 b2 b3⟩
  | 4, _ => ⟨rfl, rfl, singleByte_prefix b1 b2 b3⟩
  | 5, _ => ⟨rfl, rfl, singleByte_prefix b1 b2 b3⟩
  | 6, _ => ⟨rfl, rfl, singleByte_prefix b1 b2 b3⟩
  | 7, _ => ⟨rfl, rfl, singleByte_prefix b1 b2 b3⟩
  | 8, _ => ⟨rfl, rfl, List.nil_prefix⟩
  | 9, _ => ⟨operandImm_fits m b1 b2, rfl, immBytes_operandImm m b1 b2 b3⟩
  | 10, _ => ⟨rfl, rfl, List.nil_prefix⟩
  | 11, _ => ⟨rfl, rfl, List.nil_prefix⟩
  | 12, _ => ⟨rfl, rfl, wordBytes_operandWord b1 b2 b3⟩
  | 13, _ => ⟨rfl, rfl, wordBytes_operandWord b1 b2 b3⟩
  | 14, _ => ⟨rfl, rfl, wordBytes_operandWord b1 b2 b3⟩
  | 15, _ => ⟨rfl, rfl, longBytes_operandLong b1 b2 b3⟩
  | _ + 16, h => absurd h (by omega)

theorem decodeRow9_sound (m x : Bool) (b1 b2 b3 : Byte) : ∀ low : Nat, low < 16 →
    SoundAt m x (144 + low) b1 b2 b3 (decodeRow9 m x low b1 b2 b3)
  | 0, _ => ⟨rfl, rfl, singleByte_prefix b1 b2 b3⟩
  | 1, _ => ⟨rfl, rfl, singleByte_prefix b1 b2 b3⟩
  | 2, _ => ⟨rfl, rfl, singleByte_prefix b1 b2 b3⟩
  | 3, _ => ⟨rfl, rfl, singleByte_prefix b1 b2 b3⟩
  | 4, _ => ⟨rfl, rfl, singleByte_prefix b1 b2 b3⟩
  | 5, _ => ⟨rfl, rfl, singleByte_prefix b1 b2 b3⟩
  | 6, _ => ⟨rfl, rfl, singleByte_prefix b1 b2 b3⟩
  | 7, _ => ⟨rfl, rfl, singleByte_prefix b1 b2 b3⟩
  | 8, _ => ⟨rfl, rfl, List.nil_prefix⟩
  | 9, _ => ⟨rfl, rfl, wordBytes_operandWord b1 b2 b3⟩
  | 10, _ => ⟨rfl, rfl, List.nil_prefix⟩
  | 11, _ => ⟨rfl, rfl, List.nil_prefix⟩
  | 12, _ => ⟨rfl, rfl, wordBytes_operandWord b1 b2 b3⟩
  | 13, _ => ⟨rfl, rfl, wordBytes_operandWord b1 b2 b3⟩
  | 14, _ => ⟨rfl, rfl, wordBytes_operandWord b1 b2 b3⟩
  | 15, _ => ⟨rfl, rfl, longBytes_operandLong b1 b2 b3⟩
  | _ + 16, h => absurd h (by omega)

theorem decodeRowA_sound (m x : Bool) (b1 b2 b3 : Byte) : ∀ low : Nat, low < 16 →
    SoundAt m x (160 + low) b1 b2 b3 (decodeRowA m x low b1 b2 b3)
  | 0, _ => ⟨operandImm_fits x b1 b2, rfl, immBytes_operandImm x b1 b2 b3⟩
  | 1, _ => ⟨rfl, rfl, singleByte_prefix b1 b2 b3⟩
  | 2, _ => ⟨operandImm_fits x b1 b2, rfl, immBytes_operandImm x b1 b2 b3⟩
  | 3, _ => ⟨rfl, rfl, singleByte_prefix b1 b2 b3⟩
  | 4, _ => ⟨rfl, rfl, singleByte_prefix b1 b2 b3⟩
  | 5, _ => ⟨rfl, rfl, singleByte_prefix b1 b2 b3⟩
  | 6, _ => ⟨rfl, rfl, singleByte_prefix b1 b2 b3⟩
  | 7, _ => ⟨rfl, rfl, singleByte_prefix b1 b2 b3⟩
  | 8, _ => ⟨rfl, rfl, List.nil_prefix⟩
  | 9, _ => ⟨operandImm_fits m b1 b2, rfl, immBytes_operandImm m b1 b2 b3⟩
  | 10, _ => ⟨rfl, rfl, List.nil_prefix⟩
  | 11, _ => ⟨rfl, rfl, List.nil_prefix⟩
  | 12, _ => ⟨rfl, rfl, wordBytes_operandWord b1 b2 b3⟩
  | 13, _ => ⟨rfl, rfl, wordBytes_operandWord b1 b2 b3⟩
  | 14, _ => ⟨rfl, rfl, wordBytes_operandWord b1 b2 b3⟩
  | 15, _ => ⟨rfl, rfl, longBytes_operandLong b1 b2 b3⟩
  | _ + 16, h => absurd h (by omega)

theorem decodeRowB_sound (m x : Bool) (b1 b2 b3 : Byte) : ∀ low : Nat, low < 16 →
    SoundAt m x (176 + low) b1 b2 b3 (decodeRowB m x low b1 b2 b3)
  | 0, _ => ⟨rfl, rfl, singleByte_prefix b1 b2 b3⟩
  | 1, _ => ⟨rfl, rfl, singleByte_prefix b1 b2 b3⟩
  | 2, _ => ⟨rfl, rfl, singleByte_prefix b1 b2 b3⟩
  | 3, _ => ⟨rfl, rfl, singleByte_prefix b1 b2 b3⟩
  | 4, _ => ⟨rfl, rfl, singleByte_prefix b1 b2 b3⟩
  | 5, _ => ⟨rfl, rfl, singleByte_prefix b1 b2 b3⟩
  | 6, _ => ⟨rfl, rfl, singleByte_prefix b1 b2 b3⟩
  | 7, _ => ⟨rfl, rfl, singleByte_prefix b1 b2 b3⟩
  | 8, _ => ⟨rfl, rfl, List.nil_prefix⟩
  | 9, _ => ⟨rfl, rfl, wordBytes_operandWord b1 b2 b3⟩
  | 10, _ => ⟨rfl, rfl, List.nil_prefix⟩
  | 11, _ => ⟨rfl, rfl, List.nil_prefix⟩
  | 12, _ => ⟨rfl, rfl, wordBytes_operandWord b1 b2 b3⟩
  | 13, _ => ⟨rfl, rfl, wordBytes_operandWord b1 b2 b3⟩
  | 14, _ => ⟨rfl, rfl, wordBytes_operandWord b1 b2 b3⟩
  | 15, _ => ⟨rfl, rfl, longBytes_operandLong b1 b2 b3⟩
  | _ + 16, h => absurd h (by omega)

theorem decodeRowC_sound (m x : Bool) (b1 b2 b3 : Byte) : ∀ low : Nat, low < 16 →
    SoundAt m x (192 + low) b1 b2 b3 (decodeRowC m x low b1 b2 b3)
  | 0, _ => ⟨operandImm_fits x b1 b2, rfl, immBytes_operandImm x b1 b2 b3⟩
  | 1, _ => ⟨rfl, rfl, singleByte_prefix b1 b2 b3⟩
  | 2, _ => ⟨rfl, rfl, singleByte_prefix b1 b2 b3⟩
  | 3, _ => ⟨rfl, rfl, singleByte_prefix b1 b2 b3⟩
  | 4, _ => ⟨rfl, rfl, singleByte_prefix b1 b2 b3⟩
  | 5, _ => ⟨rfl, rfl, singleByte_prefix b1 b2 b3⟩
  | 6, _ => ⟨rfl, rfl, singleByte_prefix b1 b2 b3⟩
  | 7, _ => ⟨rfl, rfl, singleByte_prefix b1 b2 b3⟩
  | 8, _ => ⟨rfl, rfl, List.nil_prefix⟩
  | 9, _ => ⟨operandImm_fits m b1 b2, rfl, immBytes_operandImm m b1 b2 b3⟩
  | 10, _ => ⟨rfl, rfl, List.nil_prefix⟩
  | 11, _ => ⟨rfl, rfl, List.nil_prefix⟩
  | 12, _ => ⟨rfl, rfl, wordBytes_operandWord b1 b2 b3⟩
  | 13, _ => ⟨rfl, rfl, wordBytes_operandWord b1 b2 b3⟩
  | 14, _ => ⟨rfl, rfl, wordBytes_operandWord b1 b2 b3⟩
  | 15, _ => ⟨rfl, rfl, longBytes_operandLong b1 b2 b3⟩
  | _ + 16, h => absurd h (by omega)

theorem decodeRowD_sound (m x : Bool) (b1 b2 b3 : Byte) : ∀ low : Nat, low < 16 →
    SoundAt m x (208 + low) b1 b2 b3 (decodeRowD m x low b1 b2 b3)
  | 0, _ => ⟨rfl, rfl, singleByte_prefix b1 b2 b3⟩
  | 1, _ => ⟨rfl, rfl, singleByte_prefix b1 b2 b3⟩
  | 2, _ => ⟨rfl, rfl, singleByte_prefix b1 b2 b3⟩
  | 3, _ => ⟨rfl, rfl, singleByte_prefix b1 b2 b3⟩
  | 4, _ => ⟨rfl, rfl, singleByte_prefix b1 b2 b3⟩
  | 5, _ => ⟨rfl, rfl, singleByte_prefix b1 b2 b3⟩
  | 6, _ => ⟨rfl, rfl, singleByte_prefix b1 b2 b3⟩
  | 7, _ => ⟨rfl, rfl, singleByte_prefix b1 b2 b3⟩
  | 8, _ => ⟨rfl, rfl, List.nil_prefix⟩
  | 9, _ => ⟨rfl, rfl, wordBytes_operandWord b1 b2 b3⟩
  | 10, _ => ⟨rfl, rfl, List.nil_prefix⟩
  | 11, _ => ⟨rfl, rfl, List.nil_prefix⟩
  | 12, _ => ⟨rfl, rfl, wordBytes_operandWord b1 b2 b3⟩
  | 13, _ => ⟨rfl, rfl, wordBytes_operandWord b1 b2 b3⟩
  | 14, _ => ⟨rfl, rfl, wordBytes_operandWord b1 b2 b3⟩
  | 15, _ => ⟨rfl, rfl, longBytes_operandLong b1 b2 b3⟩
  | _ + 16, h => absurd h (by omega)

theorem decodeRowE_sound (m x : Bool) (b1 b2 b3 : Byte) : ∀ low : Nat, low < 16 →
    SoundAt m x (224 + low) b1 b2 b3 (decodeRowE m x low b1 b2 b3)
  | 0, _ => ⟨operandImm_fits x b1 b2, rfl, immBytes_operandImm x b1 b2 b3⟩
  | 1, _ => ⟨rfl, rfl, singleByte_prefix b1 b2 b3⟩
  | 2, _ => ⟨rfl, rfl, singleByte_prefix b1 b2 b3⟩
  | 3, _ => ⟨rfl, rfl, singleByte_prefix b1 b2 b3⟩
  | 4, _ => ⟨rfl, rfl, singleByte_prefix b1 b2 b3⟩
  | 5, _ => ⟨rfl, rfl, singleByte_prefix b1 b2 b3⟩
  | 6, _ => ⟨rfl, rfl, singleByte_prefix b1 b2 b3⟩
  | 7, _ => ⟨rfl, rfl, singleByte_prefix b1 b2 b3⟩
  | 8, _ => ⟨rfl, rfl, List.nil_prefix⟩
  | 9, _ => ⟨operandImm_fits m b1 b2, rfl, immBytes_operandImm m b1 b2 b3⟩
  | 10, _ => ⟨rfl, rfl, List.nil_prefix⟩
  | 11, _ => ⟨rfl, rfl, List.nil_prefix⟩
  | 12, _ => ⟨rfl, rfl, wordBytes_operandWord b1 b2 b3⟩
  | 13, _ => ⟨rfl, rfl, wordBytes_operandWord b1 b2 b3⟩
  | 14, _ => ⟨rfl, rfl, wordBytes_operandWord b1 b2 b3⟩
  | 15, _ => ⟨rfl, rfl, longBytes_operandLong b1 b2 b3⟩
  | _ + 16, h => absurd h (by omega)

theorem decodeRowF_sound (m x : Bool) (b1 b2 b3 : Byte) : ∀ low : Nat, low < 16 →
    SoundAt m x (240 + low) b1 b2 b3 (decodeRowF m x low b1 b2 b3)
  | 0, _ => ⟨rfl, rfl, singleByte_prefix b1 b2 b3⟩
  | 1, _ => ⟨rfl, rfl, singleByte_prefix b1 b2 b3⟩
  | 2, _ => ⟨rfl, rfl, singleByte_prefix b1 b2 b3⟩
  | 3, _ => ⟨rfl, rfl, singleByte_prefix b1 b2 b3⟩
  | 4, _ => ⟨rfl, rfl, wordBytes_operandWord b1 b2 b3⟩
  | 5, _ => ⟨rfl, rfl, singleByte_prefix b1 b2 b3⟩
  | 6, _ => ⟨rfl, rfl, singleByte_prefix b1 b2 b3⟩
  | 7, _ => ⟨rfl, rfl, singleByte_prefix b1 b2 b3⟩
  | 8, _ => ⟨rfl, rfl, List.nil_prefix⟩
  | 9, _ => ⟨rfl, rfl, wordBytes_operandWord b1 b2 b3⟩
  | 10, _ => ⟨rfl, rfl, List.nil_prefix⟩
  | 11, _ => ⟨rfl, rfl, List.nil_prefix⟩
  | 12, _ => ⟨rfl, rfl, wordBytes_operandWord b1 b2 b3⟩
  | 13, _ => ⟨rfl, rfl, wordBytes_operandWord b1 b2 b3⟩
  | 14, _ => ⟨rfl, rfl, wordBytes_operandWord b1 b2 b3⟩
  | 15, _ => ⟨rfl, rfl, longBytes_operandLong b1 b2 b3⟩
  | _ + 16, h => absurd h (by omega)

/-- Whatever four bytes the decoder looks at, it answers the instruction of the first byte, well-formed, with the
operand bytes that follow (R100, R108). -/
theorem decodeWindow_sound (m x : Bool) (b0 b1 b2 b3 : Byte) :
    SoundAt m x b0.toNat b1 b2 b3 (decodeWindow m x b0 b1 b2 b3) := by
  have hb : b0.toNat < 256 := b0.isLt
  have hl : b0.toNat % 16 < 16 := by omega
  have hsum : b0.toNat = 16 * (b0.toNat / 16) + b0.toNat % 16 := by omega
  have hcases : b0.toNat / 16 < 16 := by omega
  generalize hH : b0.toNat / 16 = H at hsum hcases
  rw [hsum]
  match H, hcases with
  | 0, _ => rw [decodeWindow_row0 m x b1 b2 b3 hH]; exact decodeRow0_sound m x b1 b2 b3 _ hl
  | 1, _ => rw [decodeWindow_row1 m x b1 b2 b3 hH]; exact decodeRow1_sound m x b1 b2 b3 _ hl
  | 2, _ => rw [decodeWindow_row2 m x b1 b2 b3 hH]; exact decodeRow2_sound m x b1 b2 b3 _ hl
  | 3, _ => rw [decodeWindow_row3 m x b1 b2 b3 hH]; exact decodeRow3_sound m x b1 b2 b3 _ hl
  | 4, _ => rw [decodeWindow_row4 m x b1 b2 b3 hH]; exact decodeRow4_sound m x b1 b2 b3 _ hl
  | 5, _ => rw [decodeWindow_row5 m x b1 b2 b3 hH]; exact decodeRow5_sound m x b1 b2 b3 _ hl
  | 6, _ => rw [decodeWindow_row6 m x b1 b2 b3 hH]; exact decodeRow6_sound m x b1 b2 b3 _ hl
  | 7, _ => rw [decodeWindow_row7 m x b1 b2 b3 hH]; exact decodeRow7_sound m x b1 b2 b3 _ hl
  | 8, _ => rw [decodeWindow_row8 m x b1 b2 b3 hH]; exact decodeRow8_sound m x b1 b2 b3 _ hl
  | 9, _ => rw [decodeWindow_row9 m x b1 b2 b3 hH]; exact decodeRow9_sound m x b1 b2 b3 _ hl
  | 10, _ => rw [decodeWindow_rowA m x b1 b2 b3 hH]; exact decodeRowA_sound m x b1 b2 b3 _ hl
  | 11, _ => rw [decodeWindow_rowB m x b1 b2 b3 hH]; exact decodeRowB_sound m x b1 b2 b3 _ hl
  | 12, _ => rw [decodeWindow_rowC m x b1 b2 b3 hH]; exact decodeRowC_sound m x b1 b2 b3 _ hl
  | 13, _ => rw [decodeWindow_rowD m x b1 b2 b3 hH]; exact decodeRowD_sound m x b1 b2 b3 _ hl
  | 14, _ => rw [decodeWindow_rowE m x b1 b2 b3 hH]; exact decodeRowE_sound m x b1 b2 b3 _ hl
  | 15, _ => rw [decodeWindow_rowF m x b1 b2 b3 hH]; exact decodeRowF_sound m x b1 b2 b3 _ hl
  | _ + 16, h => exact absurd h (by omega)

end Sys2Proof
end

