-- ==== Sys2Proof/Laws/Exec.lean ====
section
/-!
SUPPORT. Laws/Exec.lean: everything an instruction that answers a next state can have done, said once (spec/40_cycle_engine.md
R136 to R147), so that a proof about all instructions splits four forms, not 256 arms.
-/

namespace Sys2Proof.Machine

/-- The registers after an instruction that only computes on registers, `corner` being `ADC_CARRY_CORNER`; `none` for the
other instructions. -/
def regsAfter (corner : Bool) : Instr → Regs → Option Regs
  | .clc, r => some { r.advance 1 with p := { r.p with c := false } }
  | .sec, r => some { r.advance 1 with p := { r.p with c := true } }
  | .xce, r => some (exchangeCarry (r.advance 1))
  | .rep mask, r => some (clearBits mask (r.advance 2))
  | .sep mask, r => some (setBits mask (r.advance 2))
  | .adcImm (.b8 v), r =>
    some { r.advance 2 with a := withLow r.a (adcResult r.al v r.p.c), p := r.p.adc corner r.al v }
  | .adcImm (.w16 v), r => some { r.advance 3 with a := adcResult r.a v r.p.c, p := r.p.adc corner r.a v }
  | .ldaImm (.b8 v), r => some { r.advance 2 with a := withLow r.a v, p := r.p.nz8 v }
  | .ldaImm (.w16 v), r => some { r.advance 3 with a := v, p := r.p.nz16 v }
  | .ldxImm (.b8 v), r => some { r.advance 2 with x := withLow r.x v, p := r.p.nz8 v }
  | .ldxImm (.w16 v), r => some { r.advance 3 with x := v, p := r.p.nz16 v }
  | .ldyImm (.b8 v), r => some { r.advance 2 with y := withLow r.y v, p := r.p.nz8 v }
  | .ldyImm (.w16 v), r => some { r.advance 3 with y := v, p := r.p.nz16 v }
  | .jmpAbs w, r => some { r with pc := mkLong (bankOf r.pc) w }
  | .jmpAbsLong l, r => some { r with pc := l }
  | .inx, r => some ((r.advance 1).putX (r.xl + 1) (r.x + 1))
  | .iny, r => some ((r.advance 1).putY (r.yl + 1) (r.y + 1))
  | .dex, r => some ((r.advance 1).putX (r.xl - 1) (r.x - 1))
  | .dey, r => some ((r.advance 1).putY (r.yl - 1) (r.y - 1))
  | .tax, r => some ((r.advance 1).putX r.al r.a)
  | .nop, r => some (r.advance 1)
  | _, _ => none

/-- The operand latches `TL` and `TH` after an instruction (R140 to R147). -/
def latchesAfter : Instr → Seq → Byte × Byte
  | .rep mask, q => (mask, q.th)
  | .sep mask, q => (mask, q.th)
  | .adcImm (.b8 v), q | .ldaImm (.b8 v), q | .ldxImm (.b8 v), q | .ldyImm (.b8 v), q => (v, q.th)
  | .adcImm (.w16 v), _ | .ldaImm (.w16 v), _ | .ldxImm (.w16 v), _ | .ldyImm (.w16 v), _ => (loByte v, hiByte v)
  | .jmpAbs w, q => (loByte w, q.th)
  | .jmpAbsLong l, _ => (loByte (offOf l), hiByte (offOf l))
  | _, q => (q.tl, q.th)

/-- How many bytes of the instruction stream behind the opcode the bus reads before the last clock (R140 to R147). -/
def readsBeforeLast : Instr → Nat
  | .rep _ | .sep _ | .jmpAbs _ => 2
  | .adcImm (.w16 _) | .ldaImm (.w16 _) | .ldxImm (.w16 _) | .ldyImm (.w16 _) => 2
  | .jmpAbsLong _ => 3
  | _ => 1

/-- The devices after the bytes of a store went out in order. -/
def storedDevices (ds : List Device) (cells : List (Long × Byte)) : List Device :=
  cells.foldl (fun ds c => busWrite ds c.1 c.2) ds

/-- What an instruction did when it answered the next state `t`. -/
inductive Ran (i : Instr) (s : State) : State → Prop
  /-- It completed on registers alone. -/
  | closed (tl th : Byte) (r : Regs) (es : List Diag) (fits : WellFormed s.regs.p.m s.regs.p.x i = true)
      (hx : i ≠ .xce) (hr : regsAfter s.params.adcCarryCorner i s.regs = some r) : Ran i s (closedState s (opcodeByte i) tl th r es)
  /-- XCE: as the others, and the `E` line is driven. -/
  | exchanged (tl th : Byte) (es : List Diag) (hx : i = .xce) :
      Ran i s (driveE (closedState s 0xFB tl th (exchangeCarry (s.regs.advance 1)) es))
  /-- STA: the stored bytes went out. -/
  | stored (w : Word) (out : Byte) (es : List Diag) (hw : i = .staAbs w) :
      Ran i s (storedState s 0x8D (loByte w) (hiByte w) out (storedDevices s.devices (storedBytes s.regs w)) es)
  /-- STP or WAI: the hold is reached. -/
  | held (es : List Diag) (hh : i = .stp ∨ i = .wai) : Ran i s (heldState s (opcodeByte i) es)

/-- A handler that is present gives its meaning (R106). -/
theorem withHandler_of {op : Byte} {f : State → Result} {s : State} (h : s.params.implements op = true) :
    withHandler op f s = f s := if_pos h

/-- A handler that is absent refuses (R108). -/
theorem withHandler_of_not {op : Byte} {f : State → Result} {s : State} (h : s.params.implements op = false) :
    withHandler op f s = .refused (.unimplementedOpcode op s.regs.pc) := by
  unfold withHandler; rw [if_neg (by simp [h])]; rfl

/-- A meaning that answers a next state has its handler present. -/
theorem withHandler_next {op : Byte} {f : State → Result} {s t : State} (h : withHandler op f s = .next t) :
    s.params.implements op = true ∧ f s = .next t := by
  cases hp : s.params.implements op
  · rw [withHandler_of_not hp] at h; cases h
  · exact ⟨rfl, (withHandler_of hp).symm.trans h⟩

/-! ### The arm of each of the twenty opcodes with a handler -/

theorem exec_clc_eq (s : State) : exec .clc s =
    withHandler 0x18 (fun t => .next (implied2 0x18 opClc t)) s := rfl

theorem exec_sec_eq (s : State) : exec .sec s =
    withHandler 0x38 (fun t => .next (implied2 0x38 opSec t)) s := rfl

theorem exec_xce_eq (s : State) : exec .xce s =
    withHandler 0xFB (fun t => .next (implied2 0xFB opXce t)) s := rfl

theorem exec_rep_eq (mask : Byte) (s : State) : exec (.rep mask) s =
    withHandler 0xC2 (fun t => .next (immp3 0xC2 opRep mask t)) s := rfl

theorem exec_sep_eq (mask : Byte) (s : State) : exec (.sep mask) s =
    withHandler 0xE2 (fun t => .next (immp3 0xE2 opSep mask t)) s := rfl

theorem exec_adcImm_eq (imm : Imm) (s : State) : exec (.adcImm imm) s =
    withHandler 0x69 (fun t =>
      immediate 0x69 t.regs.p.m (opAdc8 t.params.adcCarryCorner) (opAdc16 t.params.adcCarryCorner) imm t) s := rfl

theorem exec_ldaImm_eq (imm : Imm) (s : State) : exec (.ldaImm imm) s =
    withHandler 0xA9 (fun t => immediate 0xA9 t.regs.p.m opLda8 opLda16 imm t) s := rfl

theorem exec_ldxImm_eq (imm : Imm) (s : State) : exec (.ldxImm imm) s =
    withHandler 0xA2 (fun t => immediate 0xA2 t.regs.p.x opLdx8 opLdx16 imm t) s := rfl

theorem exec_ldyImm_eq (imm : Imm) (s : State) : exec (.ldyImm imm) s =
    withHandler 0xA0 (fun t => immediate 0xA0 t.regs.p.x opLdy8 opLdy16 imm t) s := rfl

theorem exec_staAbs_eq (addr : Word) (s : State) : exec (.staAbs addr) s =
    withHandler 0x8D (fun t => .next (absWrite 0x8D addr t)) s := rfl

theorem exec_jmpAbs_eq (addr : Word) (s : State) : exec (.jmpAbs addr) s =
    withHandler 0x4C (fun t => .next (jmpAbs 0x4C addr t)) s := rfl

theorem exec_jmpAbsLong_eq (addr : Long) (s : State) : exec (.jmpAbsLong addr) s =
    withHandler 0x5C (fun t => .next (jmpLong 0x5C addr t)) s := rfl

theorem exec_inx_eq (s : State) : exec .inx s =
    withHandler 0xE8 (fun t => .next (implied2 0xE8 opInx t)) s := rfl

theorem exec_iny_eq (s : State) : exec .iny s =
    withHandler 0xC8 (fun t => .next (implied2 0xC8 opIny t)) s := rfl

theorem exec_dex_eq (s : State) : exec .dex s =
    withHandler 0xCA (fun t => .next (implied2 0xCA opDex t)) s := rfl

theorem exec_dey_eq (s : State) : exec .dey s =
    withHandler 0x88 (fun t => .next (implied2 0x88 opDey t)) s := rfl

theorem exec_tax_eq (s : State) : exec .tax s =
    withHandler 0xAA (fun t => .next (implied2 0xAA opTax t)) s := rfl

theorem exec_nop_eq (s : State) : exec .nop s =
    withHandler 0xEA (fun t => .next (implied2 0xEA opNop t)) s := rfl

theorem exec_stp_eq (s : State) : exec .stp s =
    withHandler 0xDB (fun t => .next (halt3 0xDB t)) s := rfl

theorem exec_wai_eq (s : State) : exec .wai s =
    withHandler 0xCB (fun t => .next (halt3 0xCB t)) s := rfl

/-- A store ends with its bytes out (R146, R204). -/
theorem exec_staAbs (w : Word) (s : State) (hp : s.params.implements 0x8D = true) :
    ∃ out es, exec (.staAbs w) s =
      .next (storedState s 0x8D (loByte w) (hiByte w) out (storedDevices s.devices (storedBytes s.regs w)) es) := by
  have hd : storedDevices s.devices (storedBytes s.regs w) = if s.regs.p.m
      then busWrite s.devices (absoluteEa s.regs.dbr w) s.regs.al
      else busWrite (busWrite s.devices (absoluteEa s.regs.dbr w) s.regs.al)
        (nextDataAddr (absoluteEa s.regs.dbr w)) s.regs.ah := by
    cases h : s.regs.p.m <;> simp [storedDevices, storedBytes, h]
  cases h : s.regs.p.m
  · rw [hd, h]
    exact ⟨_, _, (exec_staAbs_eq w s).trans <| (withHandler_of hp).trans (congrArg Host.Outcome.next (absWrite16_spec 0x8D w s h))⟩
  · rw [hd, h]
    exact ⟨_, _, (exec_staAbs_eq w s).trans <| (withHandler_of hp).trans (congrArg Host.Outcome.next (absWrite8_spec 0x8D w s h))⟩

/-- An instruction of IMPLIED2 whose operation is on registers ran to completion. -/
theorem Ran.of_implied2 {i : Instr} {s t : State} {op : Byte} {f : Regs → Regs}
    (h : Host.Outcome.next (ρ := Refusal) (φ := Fault) (implied2 op (onRegs f) s) = .next t)
    (hop : op = opcodeByte i) (fits : WellFormed s.regs.p.m s.regs.p.x i = true) (hx : i ≠ .xce)
    (hr : regsAfter s.params.adcCarryCorner i s.regs = some (f (s.regs.advance 1))) : Ran i s t := by
  cases h; subst hop; rw [implied2_spec]; exact .closed _ _ _ _ fits hx hr

/-- An immediate instruction whose operation is on registers ran to completion at the width of its flag. -/
theorem Ran.of_immediate {i : Instr} {s t : State} {op : Byte} {narrow : Bool} {f8 : Byte → Regs → Regs}
    {f16 : Word → Regs → Regs} {imm : Imm}
    (h : immediate op narrow (fun v => onRegs (f8 v)) (fun v => onRegs (f16 v)) imm s = .next t)
    (hop : op = opcodeByte i) (fits : imm.fits narrow = true → WellFormed s.regs.p.m s.regs.p.x i = true)
    (hx : i ≠ .xce)
    (h8 : ∀ v, imm = .b8 v → regsAfter s.params.adcCarryCorner i s.regs = some (f8 v (s.regs.advance 2)))
    (h16 : ∀ v, imm = .w16 v → regsAfter s.params.adcCarryCorner i s.regs = some (f16 v (s.regs.advance 3))) : Ran i s t := by
  subst hop
  obtain ⟨v, rfl, rfl, rfl⟩ | ⟨v, rfl, rfl, rfl⟩ := immediate_next h
  · rw [imm8_spec]; exact .closed _ _ _ _ (fits rfl) hx (h8 v rfl)
  · rw [imm16_spec]; exact .closed _ _ _ _ (fits rfl) hx (h16 v rfl)

/-- The inversion of `exec`. -/
theorem exec_ran {i : Instr} {s t : State} (h : exec i s = .next t) : Ran i s t := by
  cases i
  case clc => rw [exec_clc_eq] at h; exact .of_implied2 (withHandler_next h).2 rfl rfl nofun rfl
  case sec => rw [exec_sec_eq] at h; exact .of_implied2 (withHandler_next h).2 rfl rfl nofun rfl
  case inx => rw [exec_inx_eq] at h; exact .of_implied2 (withHandler_next h).2 rfl rfl nofun rfl
  case iny => rw [exec_iny_eq] at h; exact .of_implied2 (withHandler_next h).2 rfl rfl nofun rfl
  case dex => rw [exec_dex_eq] at h; exact .of_implied2 (withHandler_next h).2 rfl rfl nofun rfl
  case dey => rw [exec_dey_eq] at h; exact .of_implied2 (withHandler_next h).2 rfl rfl nofun rfl
  case tax => rw [exec_tax_eq] at h; exact .of_implied2 (withHandler_next h).2 rfl rfl nofun rfl
  case nop => rw [exec_nop_eq] at h; exact .of_implied2 (f := id) (withHandler_next h).2 rfl rfl nofun rfl
  case xce =>
    rw [exec_xce_eq] at h
    cases (withHandler_next h).2
    exact (implied2_driveE_spec 0xFB exchangeCarry s) ▸ .exchanged _ _ _ rfl
  case rep mask =>
    rw [exec_rep_eq] at h
    cases (withHandler_next h).2
    exact (immp3_spec 0xC2 clearBits mask s) ▸ .closed _ _ _ _ rfl nofun rfl
  case sep mask =>
    rw [exec_sep_eq] at h
    cases (withHandler_next h).2
    exact (immp3_spec 0xE2 setBits mask s) ▸ .closed _ _ _ _ rfl nofun rfl
  case adcImm imm =>
    rw [exec_adcImm_eq] at h
    exact .of_immediate (withHandler_next h).2 rfl id nofun (fun v e => by subst e; rfl) (fun v e => by subst e; rfl)
  case ldaImm imm =>
    rw [exec_ldaImm_eq] at h
    exact .of_immediate (withHandler_next h).2 rfl id nofun (fun v e => by subst e; rfl) (fun v e => by subst e; rfl)
  case ldxImm imm =>
    rw [exec_ldxImm_eq] at h
    exact .of_immediate (withHandler_next h).2 rfl id nofun (fun v e => by subst e; rfl) (fun v e => by subst e; rfl)
  case ldyImm imm =>
    rw [exec_ldyImm_eq] at h
    exact .of_immediate (withHandler_next h).2 rfl id nofun (fun v e => by subst e; rfl) (fun v e => by subst e; rfl)
  case jmpAbs w =>
    rw [exec_jmpAbs_eq] at h
    cases (withHandler_next h).2
    exact (jmpAbs_spec 0x4C w s) ▸ .closed _ _ _ _ rfl nofun rfl
  case jmpAbsLong l =>
    rw [exec_jmpAbsLong_eq] at h
    cases (withHandler_next h).2
    exact (jmpLong_spec 0x5C l s) ▸ .closed _ _ _ _ rfl nofun rfl
  case staAbs w =>
    obtain ⟨out, es, he⟩ := exec_staAbs w s (withHandler_next ((exec_staAbs_eq w s).symm.trans h)).1
    cases he.symm.trans h
    exact .stored w out es rfl
  case stp =>
    rw [exec_stp_eq] at h
    cases (withHandler_next h).2
    exact (halt3_spec 0xDB s) ▸ .held _ (.inl rfl)
  case wai =>
    rw [exec_wai_eq] at h
    cases (withHandler_next h).2
    exact (halt3_spec 0xCB s) ▸ .held _ (.inr rfl)
  all_goals cases h

/-- XCE completes (R172). -/
theorem exec_xce (s : State) (hp : s.params.implements 0xFB = true) : exec .xce s =
    .next (driveE (closedState s 0xFB s.seq.tl s.seq.th (exchangeCarry (s.regs.advance 1)) (readEvents s 1))) :=
  (exec_xce_eq s).trans <| (withHandler_of hp).trans (congrArg Host.Outcome.next (implied2_driveE_spec 0xFB exchangeCarry s))

/-- STP and WAI reach the hold (R147). -/
theorem exec_stp (s : State) (hp : s.params.implements 0xDB = true) :
    exec .stp s =
      .next (heldState s 0xDB (readDiag s.devices (codeAddr s.regs.pc 1) ++ readEvents s 1)) :=
  (exec_stp_eq s).trans <| (withHandler_of hp).trans (congrArg Host.Outcome.next (halt3_spec 0xDB s))

theorem exec_wai (s : State) (hp : s.params.implements 0xCB = true) :
    exec .wai s =
      .next (heldState s 0xCB (readDiag s.devices (codeAddr s.regs.pc 1) ++ readEvents s 1)) :=
  (exec_wai_eq s).trans <| (withHandler_of hp).trans (congrArg Host.Outcome.next (halt3_spec 0xCB s))

/-- An immediate instruction at the width of its flag. -/
theorem immediate_closed {op : Byte} {narrow : Bool} (f8 : Byte → Regs → Regs) (f16 : Word → Regs → Regs) {imm : Imm}
    {s : State} {r : Regs} {l : Byte × Byte} {k : Nat} (fits : imm.fits narrow = true)
    (h8 : ∀ v, imm = .b8 v → r = f8 v (s.regs.advance 2) ∧ l = (v, s.seq.th) ∧ k = 1)
    (h16 : ∀ v, imm = .w16 v → r = f16 v (s.regs.advance 3) ∧ l = (loByte v, hiByte v) ∧ k = 2) :
    immediate op narrow (fun v => onRegs (f8 v)) (fun v => onRegs (f16 v)) imm s =
      .next (closedState s op l.1 l.2 r (readEvents s k)) := by
  cases narrow <;> cases imm
  · exact nomatch fits
  · rename_i v
    obtain ⟨rfl, rfl, rfl⟩ := h16 v rfl
    exact congrArg Host.Outcome.next (imm16_spec op f16 v s)
  · rename_i v
    obtain ⟨rfl, rfl, rfl⟩ := h8 v rfl
    exact congrArg Host.Outcome.next (imm8_spec op f8 v s)
  · exact nomatch fits

/-- An instruction on registers alone, at the width the flags select, completes with the registers `regsAfter` gives, the
latches `latchesAfter` gives and the events of its bus reads. -/
theorem exec_closed {i : Instr} {s : State} {r : Regs} (hr : regsAfter s.params.adcCarryCorner i s.regs = some r) (hx : i ≠ .xce)
    (hp : s.params.implements (opcodeByte i) = true) (hw : WellFormed s.regs.p.m s.regs.p.x i = true) :
    exec i s = .next (closedState s (opcodeByte i) (latchesAfter i s.seq).1 (latchesAfter i s.seq).2 r
      (readEvents s (readsBeforeLast i))) := by
  cases i
  case xce => exact absurd rfl hx
  case clc => cases hr; rw [exec_clc_eq]; exact (withHandler_of hp).trans (congrArg Host.Outcome.next (implied2_spec 0x18 _ s))
  case sec => cases hr; rw [exec_sec_eq]; exact (withHandler_of hp).trans (congrArg Host.Outcome.next (implied2_spec 0x38 _ s))
  case inx => cases hr; rw [exec_inx_eq]; exact (withHandler_of hp).trans (congrArg Host.Outcome.next (implied2_spec 0xE8 _ s))
  case iny => cases hr; rw [exec_iny_eq]; exact (withHandler_of hp).trans (congrArg Host.Outcome.next (implied2_spec 0xC8 _ s))
  case dex => cases hr; rw [exec_dex_eq]; exact (withHandler_of hp).trans (congrArg Host.Outcome.next (implied2_spec 0xCA _ s))
  case dey => cases hr; rw [exec_dey_eq]; exact (withHandler_of hp).trans (congrArg Host.Outcome.next (implied2_spec 0x88 _ s))
  case tax => cases hr; rw [exec_tax_eq]; exact (withHandler_of hp).trans (congrArg Host.Outcome.next (implied2_spec 0xAA _ s))
  case nop => cases hr; rw [exec_nop_eq]; exact (withHandler_of hp).trans (congrArg Host.Outcome.next (implied2_spec 0xEA id s))
  case rep mask => cases hr; rw [exec_rep_eq]; exact (withHandler_of hp).trans (congrArg Host.Outcome.next (immp3_spec 0xC2 clearBits mask s))
  case sep mask => cases hr; rw [exec_sep_eq]; exact (withHandler_of hp).trans (congrArg Host.Outcome.next (immp3_spec 0xE2 setBits mask s))
  case jmpAbs w => cases hr; rw [exec_jmpAbs_eq]; exact (withHandler_of hp).trans (congrArg Host.Outcome.next (jmpAbs_spec 0x4C w s))
  case jmpAbsLong l => cases hr; rw [exec_jmpAbsLong_eq]; exact (withHandler_of hp).trans (congrArg Host.Outcome.next (jmpLong_spec 0x5C l s))
  case adcImm imm =>
    rw [exec_adcImm_eq, withHandler_of (show s.params.implements 0x69 = true from hp)]
    exact immediate_closed _ _ hw (fun v e => by subst e; cases hr; exact ⟨rfl, rfl, rfl⟩)
      (fun v e => by subst e; cases hr; exact ⟨rfl, rfl, rfl⟩)
  case ldaImm imm =>
    rw [exec_ldaImm_eq, withHandler_of (show s.params.implements 0xA9 = true from hp)]
    exact immediate_closed _ _ hw (fun v e => by subst e; cases hr; exact ⟨rfl, rfl, rfl⟩)
      (fun v e => by subst e; cases hr; exact ⟨rfl, rfl, rfl⟩)
  case ldxImm imm =>
    rw [exec_ldxImm_eq, withHandler_of (show s.params.implements 0xA2 = true from hp)]
    exact immediate_closed _ _ hw (fun v e => by subst e; cases hr; exact ⟨rfl, rfl, rfl⟩)
      (fun v e => by subst e; cases hr; exact ⟨rfl, rfl, rfl⟩)
  case ldyImm imm =>
    rw [exec_ldyImm_eq, withHandler_of (show s.params.implements 0xA0 = true from hp)]
    exact immediate_closed _ _ hw (fun v e => by subst e; cases hr; exact ⟨rfl, rfl, rfl⟩)
      (fun v e => by subst e; cases hr; exact ⟨rfl, rfl, rfl⟩)
  all_goals cases hr

/-- Every instruction that answers a next state has its handler present (R106, R108). -/
theorem exec_implements {i : Instr} {s t : State} (h : exec i s = .next t) :
    s.params.implements (opcodeByte i) = true := by
  cases i
  case clc => rw [exec_clc_eq] at h; exact (withHandler_next h).1
  case sec => rw [exec_sec_eq] at h; exact (withHandler_next h).1
  case xce => rw [exec_xce_eq] at h; exact (withHandler_next h).1
  case rep => rw [exec_rep_eq] at h; exact (withHandler_next h).1
  case sep => rw [exec_sep_eq] at h; exact (withHandler_next h).1
  case adcImm => rw [exec_adcImm_eq] at h; exact (withHandler_next h).1
  case ldaImm => rw [exec_ldaImm_eq] at h; exact (withHandler_next h).1
  case ldxImm => rw [exec_ldxImm_eq] at h; exact (withHandler_next h).1
  case ldyImm => rw [exec_ldyImm_eq] at h; exact (withHandler_next h).1
  case staAbs => rw [exec_staAbs_eq] at h; exact (withHandler_next h).1
  case jmpAbs => rw [exec_jmpAbs_eq] at h; exact (withHandler_next h).1
  case jmpAbsLong => rw [exec_jmpAbsLong_eq] at h; exact (withHandler_next h).1
  case inx => rw [exec_inx_eq] at h; exact (withHandler_next h).1
  case iny => rw [exec_iny_eq] at h; exact (withHandler_next h).1
  case dex => rw [exec_dex_eq] at h; exact (withHandler_next h).1
  case dey => rw [exec_dey_eq] at h; exact (withHandler_next h).1
  case tax => rw [exec_tax_eq] at h; exact (withHandler_next h).1
  case nop => rw [exec_nop_eq] at h; exact (withHandler_next h).1
  case stp => rw [exec_stp_eq] at h; exact (withHandler_next h).1
  case wai => rw [exec_wai_eq] at h; exact (withHandler_next h).1
  all_goals cases h

end Sys2Proof.Machine
end

