-- ==== Sys2Proof/Laws/Memory.lean ====
section
/-!
SUPPORT. Laws/Memory.lean: the laws of a store and of the bus: a read after a write, canonical form kept by every
operation, device precedence (spec/20_memory.md R62 to R67).
-/

namespace Sys2Proof.Machine

namespace Memory

@[simp] theorem read_nil (a : Nat) : read [] a = unlisted := rfl

/-- Below a canonical store's range nothing is listed. -/
theorem read_of_lt {lo hi : Nat} {m : Memory} (h : wfIn lo hi m = true) {a : Nat} (ha : a < lo) :
    read m a = unlisted := by
  induction m generalizing lo with
  | nil => rfl
  | cons c m ih =>
    obtain ⟨k, v⟩ := c
    simp only [wfIn, Bool.and_eq_true, decide_eq_true_eq] at h
    have hk : k ≠ a := by omega
    simp only [read, hk, if_false]
    exact ih h.2 (by omega)

/-- A canonical store is canonical from any lower bound. -/
theorem wfIn_mono {lo lo' hi : Nat} {m : Memory} (hl : lo' ≤ lo) (h : wfIn lo hi m = true) :
    wfIn lo' hi m = true := by
  cases m with
  | nil => rfl
  | cons c m =>
    obtain ⟨k, v⟩ := c
    simp only [wfIn, Bool.and_eq_true, decide_eq_true_eq] at h ⊢
    exact ⟨⟨⟨by omega, h.1.1.2⟩, h.1.2⟩, h.2⟩

/-- Reading the address just written gives the byte written. -/
theorem read_write_same {lo hi : Nat} {m : Memory} (h : wfIn lo hi m = true) (a : Nat) (b : Byte) :
    read (write m a b) a = b := by
  induction m generalizing lo with
  | nil => unfold write; split <;> simp_all [read]
  | cons c m ih =>
    obtain ⟨k, v⟩ := c
    simp only [wfIn, Bool.and_eq_true, decide_eq_true_eq] at h
    have below : ∀ {x}, x ≤ k → read m x = unlisted := fun hx => read_of_lt h.2 (by omega)
    unfold write
    split
    · rename_i hlt
      split
      · rename_i hb
        simp only [read, show k ≠ a by omega, if_false]
        rw [below (by omega), hb]
      · simp [read]
    · split
      · rename_i hge heq
        subst heq
        split
        · rename_i hb
          rw [below (le_refl _), hb]
        · simp [read]
      · rename_i hge hne
        simp only [read, show k ≠ a from fun e => hne e.symm, if_false]
        exact ih h.2

/-- A write leaves every other address as it was. -/
theorem read_write_other {lo hi : Nat} {m : Memory} (h : wfIn lo hi m = true) {a a' : Nat} (hne : a' ≠ a)
    (b : Byte) : read (write m a b) a' = read m a' := by
  induction m generalizing lo with
  | nil => unfold write; split <;> simp [read, Ne.symm hne]
  | cons c m ih =>
    obtain ⟨k, v⟩ := c
    simp only [wfIn, Bool.and_eq_true, decide_eq_true_eq] at h
    unfold write
    split
    · split
      · rfl
      · simp [read, Ne.symm hne]
    · split
      · rename_i hge heq
        subst heq
        split
        · simp [read, Ne.symm hne]
        · simp [read, Ne.symm hne]
      · simp only [read]
        split
        · rfl
        · exact ih h.2

/-- A write keeps the canonical form. -/
theorem write_wfIn {lo hi : Nat} {m : Memory} (h : wfIn lo hi m = true) {a : Nat} (hl : lo ≤ a) (hh : a ≤ hi)
    (b : Byte) : wfIn lo hi (write m a b) = true := by
  induction m generalizing lo with
  | nil => unfold write; split <;> simp_all [wfIn]
  | cons c m ih =>
    obtain ⟨k, v⟩ := c
    have h' := h
    simp only [wfIn, Bool.and_eq_true, decide_eq_true_eq] at h
    unfold write
    split
    · rename_i hlt
      split
      · exact h'
      · rename_i hb
        simp only [wfIn, Bool.and_eq_true, decide_eq_true_eq, bne_iff_ne, ne_eq]
        exact ⟨⟨⟨hl, hh⟩, hb⟩, ⟨⟨by omega, h.1.1.2⟩, by simpa using h.1.2⟩, h.2⟩
    · split
      · rename_i hge heq
        subst heq
        split
        · exact wfIn_mono (by omega) h.2
        · rename_i hb
          simp only [wfIn, Bool.and_eq_true, decide_eq_true_eq, bne_iff_ne, ne_eq]
          exact ⟨⟨⟨hl, hh⟩, hb⟩, h.2⟩
      · rename_i hge hne
        simp only [wfIn, Bool.and_eq_true, decide_eq_true_eq]
        exact ⟨⟨⟨h.1.1.1, h.1.1.2⟩, h.1.2⟩, ih h.2 (by omega)⟩

/-- A write keeps the canonical form over the whole space (R60). -/
theorem write_wf {m : Memory} (h : m.wf = true) {a : Nat} (ha : a ≤ 0xFFFFFF) (b : Byte) : (write m a b).wf = true :=
  write_wfIn h (Nat.zero_le a) ha b

/-- A canonical store with nothing below `lo` nor above `hi` is canonical over any wider range. -/
theorem wfIn_widen {lo hi hi' : Nat} {m : Memory} (hh : hi ≤ hi') (h : wfIn lo hi m = true) :
    wfIn lo hi' m = true := by
  induction m generalizing lo with
  | nil => rfl
  | cons c m ih =>
    obtain ⟨k, v⟩ := c
    simp only [wfIn, Bool.and_eq_true, decide_eq_true_eq] at h ⊢
    exact ⟨⟨⟨h.1.1.1, by omega⟩, h.1.2⟩, ih h.2⟩

end Memory

/-- The store of a canonical device is canonical. -/
theorem Device.store_wf {d : Device} (h : d.wf = true) : d.store.wf = true := by
  simp only [Device.wf, Bool.and_eq_true, decide_eq_true_eq] at h
  exact Memory.wfIn_mono (Nat.zero_le _) (Memory.wfIn_widen (by have := d.stop.isLt; omega) h.2)

/-! ### One device -/

@[simp] theorem Device.putByte_kind (d : Device) (a : Long) (b : Byte) : (d.putByte a b).kind = d.kind := rfl
@[simp] theorem Device.putByte_start (d : Device) (a : Long) (b : Byte) : (d.putByte a b).start = d.start := rfl
@[simp] theorem Device.putByte_stop (d : Device) (a : Long) (b : Byte) : (d.putByte a b).stop = d.stop := rfl
@[simp] theorem Device.putByte_validRead (d : Device) (a : Long) (b : Byte) (x : Long) :
    (d.putByte a b).validRead x = d.validRead x := rfl
@[simp] theorem Device.putByte_validWrite (d : Device) (a : Long) (b : Byte) (x : Long) :
    (d.putByte a b).validWrite x = d.validWrite x := rfl

/-- A claimed address lies in the range. -/
theorem Device.validRead_iff (d : Device) (a : Long) :
    d.validRead a = true ↔ d.start ≤ a ∧ a ≤ d.stop := by
  simp [Device.validRead]

/-- A device that claims a write claims the read too, and is a RAM (R63). -/
theorem Device.validRead_of_validWrite {d : Device} {a : Long} (h : d.validWrite a = true) :
    d.kind = .ram ∧ d.validRead a = true := by
  unfold Device.validWrite at h
  split at h <;> simp_all

/-- The device keeps its canonical form when a byte in its range is replaced. -/
theorem Device.putByte_wf {d : Device} (h : d.wf = true) {a : Long} (ha : d.validRead a = true) (b : Byte) :
    (d.putByte a b).wf = true := by
  simp only [Device.wf, Bool.and_eq_true, decide_eq_true_eq] at h ⊢
  rw [Device.validRead_iff] at ha
  exact ⟨h.1, Memory.write_wfIn h.2 (BitVec.le_def.mp ha.1) (BitVec.le_def.mp ha.2) b⟩

/-- Reading back the byte just put. -/
theorem Device.readByte_putByte_same {d : Device} (h : d.wf = true) (a : Long) (b : Byte) :
    (d.putByte a b).readByte a = b := by
  simp only [Device.wf, Bool.and_eq_true] at h
  exact Memory.read_write_same h.2 _ _

/-- Another address of the device reads as before. -/
theorem Device.readByte_putByte_other {d : Device} (h : d.wf = true) {a x : Long} (hne : x ≠ a) (b : Byte) :
    (d.putByte a b).readByte x = d.readByte x := by
  simp only [Device.wf, Bool.and_eq_true] at h
  exact Memory.read_write_other h.2 (fun e => hne (BitVec.eq_of_toNat_eq e)) _

/-! ### The bus -/

/-- Where no device claims a write the devices are unchanged (R65). -/
theorem busWrite_of_none {ds : List Device} {a : Long} {b : Byte} (h : claimedWrite ds a b = none) :
    busWrite ds a b = ds := by
  simp [busWrite, h]

@[simp] theorem busWrite_nil (a : Long) (b : Byte) : busWrite [] a b = [] := rfl

/-- A write goes to the head device or past it (R62, R65). -/
theorem busWrite_cons (d : Device) (ds : List Device) (a : Long) (b : Byte) :
    busWrite (d :: ds) a b = if d.validWrite a then d.putByte a b :: ds else d :: busWrite ds a b := by
  unfold busWrite
  simp only [claimedWrite]
  split
  · rfl
  · cases claimedWrite ds a b <;> rfl

@[simp] theorem claimedRead_cons (d : Device) (ds : List Device) (a : Long) :
    claimedRead (d :: ds) a = if d.validRead a then some (d.readByte a) else claimedRead ds a := rfl

/-- A write keeps every device's canonical form. -/
theorem busWrite_wf {ds : List Device} (h : ds.all Device.wf = true) (a : Long) (b : Byte) :
    (busWrite ds a b).all Device.wf = true := by
  induction ds with
  | nil => rfl
  | cons d ds ih =>
    simp only [List.all_cons, Bool.and_eq_true] at h
    rw [busWrite_cons]
    split
    · rename_i hw
      simp [Device.putByte_wf h.1 (Device.validRead_of_validWrite hw).2 b, h.2]
    · simp [h.1, ih h.2]

/-- Loading a byte from outside keeps every device's canonical form. -/
theorem loadByte_wf {ds : List Device} (h : ds.all Device.wf = true) (a : Long) (b : Byte) :
    (loadByte ds a b).all Device.wf = true := by
  induction ds with
  | nil =>
    have : (Device.putByte ⟨.ram, a, a, []⟩ a b).wf = true :=
      Device.putByte_wf (by simp [Device.wf, Memory.wfIn]) (by simp [Device.validRead]) b
    simp [loadByte, this]
  | cons d ds ih =>
    simp only [List.all_cons, Bool.and_eq_true] at h
    unfold loadByte
    split
    · rename_i hr
      simp [Device.putByte_wf h.1 hr b, h.2]
    · simp [h.1, ih h.2]

/-- A write changes no read of another address (R65). -/
theorem claimedRead_busWrite_other {ds : List Device} (h : ds.all Device.wf = true) {a x : Long} (hne : x ≠ a)
    (b : Byte) : claimedRead (busWrite ds a b) x = claimedRead ds x := by
  induction ds with
  | nil => rfl
  | cons d ds ih =>
    simp only [List.all_cons, Bool.and_eq_true] at h
    rw [busWrite_cons]
    split
    · simp [Device.readByte_putByte_other h.1 hne b]
    · simp [ih h.2]

/-- A loaded byte is what the bus reads at its address. -/
theorem busRead_loadByte_same {ds : List Device} (h : ds.all Device.wf = true) (a : Long) (b : Byte) :
    busRead sentinel (loadByte ds a b) a = b := by
  unfold busRead
  induction ds with
  | nil =>
    have : (Device.putByte ⟨.ram, a, a, []⟩ a b).readByte a = b :=
      Device.readByte_putByte_same (by simp [Device.wf, Memory.wfIn]) a b
    simp [loadByte, Device.validRead, this]
  | cons d ds ih =>
    simp only [List.all_cons, Bool.and_eq_true] at h
    unfold loadByte
    split
    · rename_i hr
      simp [hr, Device.readByte_putByte_same h.1 a b]
    · rename_i hr
      simpa [hr] using ih h.2

end Sys2Proof.Machine
end

