-- ==== Sys2Proof/Laws/PerInstr.lean ====
section
/-!
SUPPORT. Laws/PerInstr.lean: the family of facts stated of each instruction as syntax, one lemma a constructor.
-/

namespace Sys2Proof.Laws.DecodesBack

/-- The decoder gives an instruction back from its opcode byte and the bytes after it, when these begin with its operand
bytes and the flags select the width of its immediate (spec/30_encoding.md R100 to R103). -/
def Statement (i : Instr) : Prop :=
  ∀ (m x : Bool) (b1 b2 b3 : Byte), WellFormed m x i = true → operandBytes i <+: [b1, b2, b3] →
    decodeWindow m x (opcodeByte i) b1 b2 b3 = i

theorem byte_of_prefix {b b1 b2 b3 : Byte} (h : [b] <+: [b1, b2, b3]) : b1 = b := by
  simp only [List.cons_prefix_cons] at h
  exact h.1.symm

theorem word_of_prefix {w : Word} {b1 b2 b3 : Byte} (h : wordBytes w <+: [b1, b2, b3]) : operandWord b1 b2 = w := by
  simp only [wordBytes, List.cons_prefix_cons] at h
  rw [← h.1, ← h.2.1, operandWord, mkWord_hi_lo]

theorem long_of_prefix {l : Long} {b1 b2 b3 : Byte} (h : longBytes l <+: [b1, b2, b3]) : operandLong b1 b2 b3 = l := by
  simp only [longBytes, List.cons_prefix_cons] at h
  rw [← h.1, ← h.2.1, ← h.2.2.1, operandLong, mkWord_hi_lo, mkLong_bank_off]

theorem imm_of_prefix {n : Bool} {imm : Imm} {b1 b2 b3 : Byte} (hf : imm.fits n = true)
    (h : immBytes imm <+: [b1, b2, b3]) : operandImm n b1 b2 = imm := by
  cases n <;> cases imm
  · exact nomatch hf
  · exact congrArg Imm.w16 (word_of_prefix h)
  · exact congrArg Imm.b8 (byte_of_prefix h)
  · exact nomatch hf

theorem brk (b : Byte) : Statement (.brk b) := fun m x b1 b2 b3 _ h =>
  (decodeWindow_row0 m x b1 b2 b3 (b0 := 0x00) rfl).trans (congrArg Instr.brk (byte_of_prefix h))
theorem oraDirXInd (b : Byte) : Statement (.oraDirXInd b) := fun m x b1 b2 b3 _ h =>
  (decodeWindow_row0 m x b1 b2 b3 (b0 := 0x01) rfl).trans (congrArg Instr.oraDirXInd (byte_of_prefix h))
theorem cop (b : Byte) : Statement (.cop b) := fun m x b1 b2 b3 _ h =>
  (decodeWindow_row0 m x b1 b2 b3 (b0 := 0x02) rfl).trans (congrArg Instr.cop (byte_of_prefix h))
theorem oraStk (b : Byte) : Statement (.oraStk b) := fun m x b1 b2 b3 _ h =>
  (decodeWindow_row0 m x b1 b2 b3 (b0 := 0x03) rfl).trans (congrArg Instr.oraStk (byte_of_prefix h))
theorem tsbDir (b : Byte) : Statement (.tsbDir b) := fun m x b1 b2 b3 _ h =>
  (decodeWindow_row0 m x b1 b2 b3 (b0 := 0x04) rfl).trans (congrArg Instr.tsbDir (byte_of_prefix h))
theorem oraDir (b : Byte) : Statement (.oraDir b) := fun m x b1 b2 b3 _ h =>
  (decodeWindow_row0 m x b1 b2 b3 (b0 := 0x05) rfl).trans (congrArg Instr.oraDir (byte_of_prefix h))
theorem aslDir (b : Byte) : Statement (.aslDir b) := fun m x b1 b2 b3 _ h =>
  (decodeWindow_row0 m x b1 b2 b3 (b0 := 0x06) rfl).trans (congrArg Instr.aslDir (byte_of_prefix h))
theorem oraDirIndLong (b : Byte) : Statement (.oraDirIndLong b) := fun m x b1 b2 b3 _ h =>
  (decodeWindow_row0 m x b1 b2 b3 (b0 := 0x07) rfl).trans (congrArg Instr.oraDirIndLong (byte_of_prefix h))
theorem php : Statement .php := fun m x b1 b2 b3 _ _ => decodeWindow_row0 m x b1 b2 b3 (b0 := 0x08) rfl
theorem oraImm (imm : Imm) : Statement (.oraImm imm) := fun m x b1 b2 b3 hf h =>
  (decodeWindow_row0 m x b1 b2 b3 (b0 := 0x09) rfl).trans (congrArg Instr.oraImm (imm_of_prefix hf h))
theorem aslAcc : Statement .aslAcc := fun m x b1 b2 b3 _ _ => decodeWindow_row0 m x b1 b2 b3 (b0 := 0x0A) rfl
theorem phd : Statement .phd := fun m x b1 b2 b3 _ _ => decodeWindow_row0 m x b1 b2 b3 (b0 := 0x0B) rfl
theorem tsbAbs (w : Word) : Statement (.tsbAbs w) := fun m x b1 b2 b3 _ h =>
  (decodeWindow_row0 m x b1 b2 b3 (b0 := 0x0C) rfl).trans (congrArg Instr.tsbAbs (word_of_prefix h))
theorem oraAbs (w : Word) : Statement (.oraAbs w) := fun m x b1 b2 b3 _ h =>
  (decodeWindow_row0 m x b1 b2 b3 (b0 := 0x0D) rfl).trans (congrArg Instr.oraAbs (word_of_prefix h))
theorem aslAbs (w : Word) : Statement (.aslAbs w) := fun m x b1 b2 b3 _ h =>
  (decodeWindow_row0 m x b1 b2 b3 (b0 := 0x0E) rfl).trans (congrArg Instr.aslAbs (word_of_prefix h))
theorem oraAbsLong (l : Long) : Statement (.oraAbsLong l) := fun m x b1 b2 b3 _ h =>
  (decodeWindow_row0 m x b1 b2 b3 (b0 := 0x0F) rfl).trans (congrArg Instr.oraAbsLong (long_of_prefix h))
theorem bpl (b : Byte) : Statement (.bpl b) := fun m x b1 b2 b3 _ h =>
  (decodeWindow_row1 m x b1 b2 b3 (b0 := 0x10) rfl).trans (congrArg Instr.bpl (byte_of_prefix h))
theorem oraDirIndY (b : Byte) : Statement (.oraDirIndY b) := fun m x b1 b2 b3 _ h =>
  (decodeWindow_row1 m x b1 b2 b3 (b0 := 0x11) rfl).trans (congrArg Instr.oraDirIndY (byte_of_prefix h))
theorem oraDirInd (b : Byte) : Statement (.oraDirInd b) := fun m x b1 b2 b3 _ h =>
  (decodeWindow_row1 m x b1 b2 b3 (b0 := 0x12) rfl).trans (congrArg Instr.oraDirInd (byte_of_prefix h))
theorem oraStkIndY (b : Byte) : Statement (.oraStkIndY b) := fun m x b1 b2 b3 _ h =>
  (decodeWindow_row1 m x b1 b2 b3 (b0 := 0x13) rfl).trans (congrArg Instr.oraStkIndY (byte_of_prefix h))
theorem trbDir (b : Byte) : Statement (.trbDir b) := fun m x b1 b2 b3 _ h =>
  (decodeWindow_row1 m x b1 b2 b3 (b0 := 0x14) rfl).trans (congrArg Instr.trbDir (byte_of_prefix h))
theorem oraDirX (b : Byte) : Statement (.oraDirX b) := fun m x b1 b2 b3 _ h =>
  (decodeWindow_row1 m x b1 b2 b3 (b0 := 0x15) rfl).trans (congrArg Instr.oraDirX (byte_of_prefix h))
theorem aslDirX (b : Byte) : Statement (.aslDirX b) := fun m x b1 b2 b3 _ h =>
  (decodeWindow_row1 m x b1 b2 b3 (b0 := 0x16) rfl).trans (congrArg Instr.aslDirX (byte_of_prefix h))
theorem oraDirIndLongY (b : Byte) : Statement (.oraDirIndLongY b) := fun m x b1 b2 b3 _ h =>
  (decodeWindow_row1 m x b1 b2 b3 (b0 := 0x17) rfl).trans (congrArg Instr.oraDirIndLongY (byte_of_prefix h))
theorem clc : Statement .clc := fun m x b1 b2 b3 _ _ => decodeWindow_row1 m x b1 b2 b3 (b0 := 0x18) rfl
theorem oraAbsY (w : Word) : Statement (.oraAbsY w) := fun m x b1 b2 b3 _ h =>
  (decodeWindow_row1 m x b1 b2 b3 (b0 := 0x19) rfl).trans (congrArg Instr.oraAbsY (word_of_prefix h))
theorem incAcc : Statement .incAcc := fun m x b1 b2 b3 _ _ => decodeWindow_row1 m x b1 b2 b3 (b0 := 0x1A) rfl
theorem tcs : Statement .tcs := fun m x b1 b2 b3 _ _ => decodeWindow_row1 m x b1 b2 b3 (b0 := 0x1B) rfl
theorem trbAbs (w : Word) : Statement (.trbAbs w) := fun m x b1 b2 b3 _ h =>
  (decodeWindow_row1 m x b1 b2 b3 (b0 := 0x1C) rfl).trans (congrArg Instr.trbAbs (word_of_prefix h))
theorem oraAbsX (w : Word) : Statement (.oraAbsX w) := fun m x b1 b2 b3 _ h =>
  (decodeWindow_row1 m x b1 b2 b3 (b0 := 0x1D) rfl).trans (congrArg Instr.oraAbsX (word_of_prefix h))
theorem aslAbsX (w : Word) : Statement (.aslAbsX w) := fun m x b1 b2 b3 _ h =>
  (decodeWindow_row1 m x b1 b2 b3 (b0 := 0x1E) rfl).trans (congrArg Instr.aslAbsX (word_of_prefix h))
theorem oraAbsLongX (l : Long) : Statement (.oraAbsLongX l) := fun m x b1 b2 b3 _ h =>
  (decodeWindow_row1 m x b1 b2 b3 (b0 := 0x1F) rfl).trans (congrArg Instr.oraAbsLongX (long_of_prefix h))
theorem jsrAbs (w : Word) : Statement (.jsrAbs w) := fun m x b1 b2 b3 _ h =>
  (decodeWindow_row2 m x b1 b2 b3 (b0 := 0x20) rfl).trans (congrArg Instr.jsrAbs (word_of_prefix h))
theorem andDirXInd (b : Byte) : Statement (.andDirXInd b) := fun m x b1 b2 b3 _ h =>
  (decodeWindow_row2 m x b1 b2 b3 (b0 := 0x21) rfl).trans (congrArg Instr.andDirXInd (byte_of_prefix h))
theorem jslAbsLong (l : Long) : Statement (.jslAbsLong l) := fun m x b1 b2 b3 _ h =>
  (decodeWindow_row2 m x b1 b2 b3 (b0 := 0x22) rfl).trans (congrArg Instr.jslAbsLong (long_of_prefix h))
theorem andStk (b : Byte) : Statement (.andStk b) := fun m x b1 b2 b3 _ h =>
  (decodeWindow_row2 m x b1 b2 b3 (b0 := 0x23) rfl).trans (congrArg Instr.andStk (byte_of_prefix h))
theorem bitDir (b : Byte) : Statement (.bitDir b) := fun m x b1 b2 b3 _ h =>
  (decodeWindow_row2 m x b1 b2 b3 (b0 := 0x24) rfl).trans (congrArg Instr.bitDir (byte_of_prefix h))
theorem andDir (b : Byte) : Statement (.andDir b) := fun m x b1 b2 b3 _ h =>
  (decodeWindow_row2 m x b1 b2 b3 (b0 := 0x25) rfl).trans (congrArg Instr.andDir (byte_of_prefix h))
theorem rolDir (b : Byte) : Statement (.rolDir b) := fun m x b1 b2 b3 _ h =>
  (decodeWindow_row2 m x b1 b2 b3 (b0 := 0x26) rfl).trans (congrArg Instr.rolDir (byte_of_prefix h))
theorem andDirIndLong (b : Byte) : Statement (.andDirIndLong b) := fun m x b1 b2 b3 _ h =>
  (decodeWindow_row2 m x b1 b2 b3 (b0 := 0x27) rfl).trans (congrArg Instr.andDirIndLong (byte_of_prefix h))
theorem plp : Statement .plp := fun m x b1 b2 b3 _ _ => decodeWindow_row2 m x b1 b2 b3 (b0 := 0x28) rfl
theorem andImm (imm : Imm) : Statement (.andImm imm) := fun m x b1 b2 b3 hf h =>
  (decodeWindow_row2 m x b1 b2 b3 (b0 := 0x29) rfl).trans (congrArg Instr.andImm (imm_of_prefix hf h))
theorem rolAcc : Statement .rolAcc := fun m x b1 b2 b3 _ _ => decodeWindow_row2 m x b1 b2 b3 (b0 := 0x2A) rfl
theorem pld : Statement .pld := fun m x b1 b2 b3 _ _ => decodeWindow_row2 m x b1 b2 b3 (b0 := 0x2B) rfl
theorem bitAbs (w : Word) : Statement (.bitAbs w) := fun m x b1 b2 b3 _ h =>
  (decodeWindow_row2 m x b1 b2 b3 (b0 := 0x2C) rfl).trans (congrArg Instr.bitAbs (word_of_prefix h))
theorem andAbs (w : Word) : Statement (.andAbs w) := fun m x b1 b2 b3 _ h =>
  (decodeWindow_row2 m x b1 b2 b3 (b0 := 0x2D) rfl).trans (congrArg Instr.andAbs (word_of_prefix h))
theorem rolAbs (w : Word) : Statement (.rolAbs w) := fun m x b1 b2 b3 _ h =>
  (decodeWindow_row2 m x b1 b2 b3 (b0 := 0x2E) rfl).trans (congrArg Instr.rolAbs (word_of_prefix h))
theorem andAbsLong (l : Long) : Statement (.andAbsLong l) := fun m x b1 b2 b3 _ h =>
  (decodeWindow_row2 m x b1 b2 b3 (b0 := 0x2F) rfl).trans (congrArg Instr.andAbsLong (long_of_prefix h))
theorem bmi (b : Byte) : Statement (.bmi b) := fun m x b1 b2 b3 _ h =>
  (decodeWindow_row3 m x b1 b2 b3 (b0 := 0x30) rfl).trans (congrArg Instr.bmi (byte_of_prefix h))
theorem andDirIndY (b : Byte) : Statement (.andDirIndY b) := fun m x b1 b2 b3 _ h =>
  (decodeWindow_row3 m x b1 b2 b3 (b0 := 0x31) rfl).trans (congrArg Instr.andDirIndY (byte_of_prefix h))
theorem andDirInd (b : Byte) : Statement (.andDirInd b) := fun m x b1 b2 b3 _ h =>
  (decodeWindow_row3 m x b1 b2 b3 (b0 := 0x32) rfl).trans (congrArg Instr.andDirInd (byte_of_prefix h))
theorem andStkIndY (b : Byte) : Statement (.andStkIndY b) := fun m x b1 b2 b3 _ h =>
  (decodeWindow_row3 m x b1 b2 b3 (b0 := 0x33) rfl).trans (congrArg Instr.andStkIndY (byte_of_prefix h))
theorem bitDirX (b : Byte) : Statement (.bitDirX b) := fun m x b1 b2 b3 _ h =>
  (decodeWindow_row3 m x b1 b2 b3 (b0 := 0x34) rfl).trans (congrArg Instr.bitDirX (byte_of_prefix h))
theorem andDirX (b : Byte) : Statement (.andDirX b) := fun m x b1 b2 b3 _ h =>
  (decodeWindow_row3 m x b1 b2 b3 (b0 := 0x35) rfl).trans (congrArg Instr.andDirX (byte_of_prefix h))
theorem rolDirX (b : Byte) : Statement (.rolDirX b) := fun m x b1 b2 b3 _ h =>
  (decodeWindow_row3 m x b1 b2 b3 (b0 := 0x36) rfl).trans (congrArg Instr.rolDirX (byte_of_prefix h))
theorem andDirIndLongY (b : Byte) : Statement (.andDirIndLongY b) := fun m x b1 b2 b3 _ h =>
  (decodeWindow_row3 m x b1 b2 b3 (b0 := 0x37) rfl).trans (congrArg Instr.andDirIndLongY (byte_of_prefix h))
theorem sec : Statement .sec := fun m x b1 b2 b3 _ _ => decodeWindow_row3 m x b1 b2 b3 (b0 := 0x38) rfl
theorem andAbsY (w : Word) : Statement (.andAbsY w) := fun m x b1 b2 b3 _ h =>
  (decodeWindow_row3 m x b1 b2 b3 (b0 := 0x39) rfl).trans (congrArg Instr.andAbsY (word_of_prefix h))
theorem decAcc : Statement .decAcc := fun m x b1 b2 b3 _ _ => decodeWindow_row3 m x b1 b2 b3 (b0 := 0x3A) rfl
theorem tsc : Statement .tsc := fun m x b1 b2 b3 _ _ => decodeWindow_row3 m x b1 b2 b3 (b0 := 0x3B) rfl
theorem bitAbsX (w : Word) : Statement (.bitAbsX w) := fun m x b1 b2 b3 _ h =>
  (decodeWindow_row3 m x b1 b2 b3 (b0 := 0x3C) rfl).trans (congrArg Instr.bitAbsX (word_of_prefix h))
theorem andAbsX (w : Word) : Statement (.andAbsX w) := fun m x b1 b2 b3 _ h =>
  (decodeWindow_row3 m x b1 b2 b3 (b0 := 0x3D) rfl).trans (congrArg Instr.andAbsX (word_of_prefix h))
theorem rolAbsX (w : Word) : Statement (.rolAbsX w) := fun m x b1 b2 b3 _ h =>
  (decodeWindow_row3 m x b1 b2 b3 (b0 := 0x3E) rfl).trans (congrArg Instr.rolAbsX (word_of_prefix h))
theorem andAbsLongX (l : Long) : Statement (.andAbsLongX l) := fun m x b1 b2 b3 _ h =>
  (decodeWindow_row3 m x b1 b2 b3 (b0 := 0x3F) rfl).trans (congrArg Instr.andAbsLongX (long_of_prefix h))
theorem rti : Statement .rti := fun m x b1 b2 b3 _ _ => decodeWindow_row4 m x b1 b2 b3 (b0 := 0x40) rfl
theorem eorDirXInd (b : Byte) : Statement (.eorDirXInd b) := fun m x b1 b2 b3 _ h =>
  (decodeWindow_row4 m x b1 b2 b3 (b0 := 0x41) rfl).trans (congrArg Instr.eorDirXInd (byte_of_prefix h))
theorem wdm (b : Byte) : Statement (.wdm b) := fun m x b1 b2 b3 _ h =>
  (decodeWindow_row4 m x b1 b2 b3 (b0 := 0x42) rfl).trans (congrArg Instr.wdm (byte_of_prefix h))
theorem eorStk (b : Byte) : Statement (.eorStk b) := fun m x b1 b2 b3 _ h =>
  (decodeWindow_row4 m x b1 b2 b3 (b0 := 0x43) rfl).trans (congrArg Instr.eorStk (byte_of_prefix h))
theorem mvp (w : Word) : Statement (.mvp w) := fun m x b1 b2 b3 _ h =>
  (decodeWindow_row4 m x b1 b2 b3 (b0 := 0x44) rfl).trans (congrArg Instr.mvp (word_of_prefix h))
theorem eorDir (b : Byte) : Statement (.eorDir b) := fun m x b1 b2 b3 _ h =>
  (decodeWindow_row4 m x b1 b2 b3 (b0 := 0x45) rfl).trans (congrArg Instr.eorDir (byte_of_prefix h))
theorem lsrDir (b : Byte) : Statement (.lsrDir b) := fun m x b1 b2 b3 _ h =>
  (decodeWindow_row4 m x b1 b2 b3 (b0 := 0x46) rfl).trans (congrArg Instr.lsrDir (byte_of_prefix h))
theorem eorDirIndLong (b : Byte) : Statement (.eorDirIndLong b) := fun m x b1 b2 b3 _ h =>
  (decodeWindow_row4 m x b1 b2 b3 (b0 := 0x47) rfl).trans (congrArg Instr.eorDirIndLong (byte_of_prefix h))
theorem pha : Statement .pha := fun m x b1 b2 b3 _ _ => decodeWindow_row4 m x b1 b2 b3 (b0 := 0x48) rfl
theorem eorImm (imm : Imm) : Statement (.eorImm imm) := fun m x b1 b2 b3 hf h =>
  (decodeWindow_row4 m x b1 b2 b3 (b0 := 0x49) rfl).trans (congrArg Instr.eorImm (imm_of_prefix hf h))
theorem lsrAcc : Statement .lsrAcc := fun m x b1 b2 b3 _ _ => decodeWindow_row4 m x b1 b2 b3 (b0 := 0x4A) rfl
theorem phk : Statement .phk := fun m x b1 b2 b3 _ _ => decodeWindow_row4 m x b1 b2 b3 (b0 := 0x4B) rfl
theorem jmpAbs (w : Word) : Statement (.jmpAbs w) := fun m x b1 b2 b3 _ h =>
  (decodeWindow_row4 m x b1 b2 b3 (b0 := 0x4C) rfl).trans (congrArg Instr.jmpAbs (word_of_prefix h))
theorem eorAbs (w : Word) : Statement (.eorAbs w) := fun m x b1 b2 b3 _ h =>
  (decodeWindow_row4 m x b1 b2 b3 (b0 := 0x4D) rfl).trans (congrArg Instr.eorAbs (word_of_prefix h))
theorem lsrAbs (w : Word) : Statement (.lsrAbs w) := fun m x b1 b2 b3 _ h =>
  (decodeWindow_row4 m x b1 b2 b3 (b0 := 0x4E) rfl).trans (congrArg Instr.lsrAbs (word_of_prefix h))
theorem eorAbsLong (l : Long) : Statement (.eorAbsLong l) := fun m x b1 b2 b3 _ h =>
  (decodeWindow_row4 m x b1 b2 b3 (b0 := 0x4F) rfl).trans (congrArg Instr.eorAbsLong (long_of_prefix h))
theorem bvc (b : Byte) : Statement (.bvc b) := fun m x b1 b2 b3 _ h =>
  (decodeWindow_row5 m x b1 b2 b3 (b0 := 0x50) rfl).trans (congrArg Instr.bvc (byte_of_prefix h))
theorem eorDirIndY (b : Byte) : Statement (.eorDirIndY b) := fun m x b1 b2 b3 _ h =>
  (decodeWindow_row5 m x b1 b2 b3 (b0 := 0x51) rfl).trans (congrArg Instr.eorDirIndY (byte_of_prefix h))
theorem eorDirInd (b : Byte) : Statement (.eorDirInd b) := fun m x b1 b2 b3 _ h =>
  (decodeWindow_row5 m x b1 b2 b3 (b0 := 0x52) rfl).trans (congrArg Instr.eorDirInd (byte_of_prefix h))
theorem eorStkIndY (b : Byte) : Statement (.eorStkIndY b) := fun m x b1 b2 b3 _ h =>
  (decodeWindow_row5 m x b1 b2 b3 (b0 := 0x53) rfl).trans (congrArg Instr.eorStkIndY (byte_of_prefix h))
theorem mvn (w : Word) : Statement (.mvn w) := fun m x b1 b2 b3 _ h =>
  (decodeWindow_row5 m x b1 b2 b3 (b0 := 0x54) rfl).trans (congrArg Instr.mvn (word_of_prefix h))
theorem eorDirX (b : Byte) : Statement (.eorDirX b) := fun m x b1 b2 b3 _ h =>
  (decodeWindow_row5 m x b1 b2 b3 (b0 := 0x55) rfl).trans (congrArg Instr.eorDirX (byte_of_prefix h))
theorem lsrDirX (b : Byte) : Statement (.lsrDirX b) := fun m x b1 b2 b3 _ h =>
  (decodeWindow_row5 m x b1 b2 b3 (b0 := 0x56) rfl).trans (congrArg Instr.lsrDirX (byte_of_prefix h))
theorem eorDirIndLongY (b : Byte) : Statement (.eorDirIndLongY b) := fun m x b1 b2 b3 _ h =>
  (decodeWindow_row5 m x b1 b2 b3 (b0 := 0x57) rfl).trans (congrArg Instr.eorDirIndLongY (byte_of_prefix h))
theorem cli : Statement .cli := fun m x b1 b2 b3 _ _ => decodeWindow_row5 m x b1 b2 b3 (b0 := 0x58) rfl
theorem eorAbsY (w : Word) : Statement (.eorAbsY w) := fun m x b1 b2 b3 _ h =>
  (decodeWindow_row5 m x b1 b2 b3 (b0 := 0x59) rfl).trans (congrArg Instr.eorAbsY (word_of_prefix h))
theorem phy : Statement .phy := fun m x b1 b2 b3 _ _ => decodeWindow_row5 m x b1 b2 b3 (b0 := 0x5A) rfl
theorem tcd : Statement .tcd := fun m x b1 b2 b3 _ _ => decodeWindow_row5 m x b1 b2 b3 (b0 := 0x5B) rfl
theorem jmpAbsLong (l : Long) : Statement (.jmpAbsLong l) := fun m x b1 b2 b3 _ h =>
  (decodeWindow_row5 m x b1 b2 b3 (b0 := 0x5C) rfl).trans (congrArg Instr.jmpAbsLong (long_of_prefix h))
theorem eorAbsX (w : Word) : Statement (.eorAbsX w) := fun m x b1 b2 b3 _ h =>
  (decodeWindow_row5 m x b1 b2 b3 (b0 := 0x5D) rfl).trans (congrArg Instr.eorAbsX (word_of_prefix h))
theorem lsrAbsX (w : Word) : Statement (.lsrAbsX w) := fun m x b1 b2 b3 _ h =>
  (decodeWindow_row5 m x b1 b2 b3 (b0 := 0x5E) rfl).trans (congrArg Instr.lsrAbsX (word_of_prefix h))
theorem eorAbsLongX (l : Long) : Statement (.eorAbsLongX l) := fun m x b1 b2 b3 _ h =>
  (decodeWindow_row5 m x b1 b2 b3 (b0 := 0x5F) rfl).trans (congrArg Instr.eorAbsLongX (long_of_prefix h))
theorem rts : Statement .rts := fun m x b1 b2 b3 _ _ => decodeWindow_row6 m x b1 b2 b3 (b0 := 0x60) rfl
theorem adcDirXInd (b : Byte) : Statement (.adcDirXInd b) := fun m x b1 b2 b3 _ h =>
  (decodeWindow_row6 m x b1 b2 b3 (b0 := 0x61) rfl).trans (congrArg Instr.adcDirXInd (byte_of_prefix h))
theorem per (w : Word) : Statement (.per w) := fun m x b1 b2 b3 _ h =>
  (decodeWindow_row6 m x b1 b2 b3 (b0 := 0x62) rfl).trans (congrArg Instr.per (word_of_prefix h))
theorem adcStk (b : Byte) : Statement (.adcStk b) := fun m x b1 b2 b3 _ h =>
  (decodeWindow_row6 m x b1 b2 b3 (b0 := 0x63) rfl).trans (congrArg Instr.adcStk (byte_of_prefix h))
theorem stzDir (b : Byte) : Statement (.stzDir b) := fun m x b1 b2 b3 _ h =>
  (decodeWindow_row6 m x b1 b2 b3 (b0 := 0x64) rfl).trans (congrArg Instr.stzDir (byte_of_prefix h))
theorem adcDir (b : Byte) : Statement (.adcDir b) := fun m x b1 b2 b3 _ h =>
  (decodeWindow_row6 m x b1 b2 b3 (b0 := 0x65) rfl).trans (congrArg Instr.adcDir (byte_of_prefix h))
theorem rorDir (b : Byte) : Statement (.rorDir b) := fun m x b1 b2 b3 _ h =>
  (decodeWindow_row6 m x b1 b2 b3 (b0 := 0x66) rfl).trans (congrArg Instr.rorDir (byte_of_prefix h))
theorem adcDirIndLong (b : Byte) : Statement (.adcDirIndLong b) := fun m x b1 b2 b3 _ h =>
  (decodeWindow_row6 m x b1 b2 b3 (b0 := 0x67) rfl).trans (congrArg Instr.adcDirIndLong (byte_of_prefix h))
theorem pla : Statement .pla := fun m x b1 b2 b3 _ _ => decodeWindow_row6 m x b1 b2 b3 (b0 := 0x68) rfl
theorem adcImm (imm : Imm) : Statement (.adcImm imm) := fun m x b1 b2 b3 hf h =>
  (decodeWindow_row6 m x b1 b2 b3 (b0 := 0x69) rfl).trans (congrArg Instr.adcImm (imm_of_prefix hf h))
theorem rorAcc : Statement .rorAcc := fun m x b1 b2 b3 _ _ => decodeWindow_row6 m x b1 b2 b3 (b0 := 0x6A) rfl
theorem rtl : Statement .rtl := fun m x b1 b2 b3 _ _ => decodeWindow_row6 m x b1 b2 b3 (b0 := 0x6B) rfl
theorem jmpAbsInd (w : Word) : Statement (.jmpAbsInd w) := fun m x b1 b2 b3 _ h =>
  (decodeWindow_row6 m x b1 b2 b3 (b0 := 0x6C) rfl).trans (congrArg Instr.jmpAbsInd (word_of_prefix h))
theorem adcAbs (w : Word) : Statement (.adcAbs w) := fun m x b1 b2 b3 _ h =>
  (decodeWindow_row6 m x b1 b2 b3 (b0 := 0x6D) rfl).trans (congrArg Instr.adcAbs (word_of_prefix h))
theorem rorAbs (w : Word) : Statement (.rorAbs w) := fun m x b1 b2 b3 _ h =>
  (decodeWindow_row6 m x b1 b2 b3 (b0 := 0x6E) rfl).trans (congrArg Instr.rorAbs (word_of_prefix h))
theorem adcAbsLong (l : Long) : Statement (.adcAbsLong l) := fun m x b1 b2 b3 _ h =>
  (decodeWindow_row6 m x b1 b2 b3 (b0 := 0x6F) rfl).trans (congrArg Instr.adcAbsLong (long_of_prefix h))
theorem bvs (b : Byte) : Statement (.bvs b) := fun m x b1 b2 b3 _ h =>
  (decodeWindow_row7 m x b1 b2 b3 (b0 := 0x70) rfl).trans (congrArg Instr.bvs (byte_of_prefix h))
theorem adcDirIndY (b : Byte) : Statement (.adcDirIndY b) := fun m x b1 b2 b3 _ h =>
  (decodeWindow_row7 m x b1 b2 b3 (b0 := 0x71) rfl).trans (congrArg Instr.adcDirIndY (byte_of_prefix h))
theorem adcDirInd (b : Byte) : Statement (.adcDirInd b) := fun m x b1 b2 b3 _ h =>
  (decodeWindow_row7 m x b1 b2 b3 (b0 := 0x72) rfl).trans (congrArg Instr.adcDirInd (byte_of_prefix h))
theorem adcStkIndY (b : Byte) : Statement (.adcStkIndY b) := fun m x b1 b2 b3 _ h =>
  (decodeWindow_row7 m x b1 b2 b3 (b0 := 0x73) rfl).trans (congrArg Instr.adcStkIndY (byte_of_prefix h))
theorem stzDirX (b : Byte) : Statement (.stzDirX b) := fun m x b1 b2 b3 _ h =>
  (decodeWindow_row7 m x b1 b2 b3 (b0 := 0x74) rfl).trans (congrArg Instr.stzDirX (byte_of_prefix h))
theorem adcDirX (b : Byte) : Statement (.adcDirX b) := fun m x b1 b2 b3 _ h =>
  (decodeWindow_row7 m x b1 b2 b3 (b0 := 0x75) rfl).trans (congrArg Instr.adcDirX (byte_of_prefix h))
theorem rorDirX (b : Byte) : Statement (.rorDirX b) := fun m x b1 b2 b3 _ h =>
  (decodeWindow_row7 m x b1 b2 b3 (b0 := 0x76) rfl).trans (congrArg Instr.rorDirX (byte_of_prefix h))
theorem adcDirIndLongY (b : Byte) : Statement (.adcDirIndLongY b) := fun m x b1 b2 b3 _ h =>
  (decodeWindow_row7 m x b1 b2 b3 (b0 := 0x77) rfl).trans (congrArg Instr.adcDirIndLongY (byte_of_prefix h))
theorem sei : Statement .sei := fun m x b1 b2 b3 _ _ => decodeWindow_row7 m x b1 b2 b3 (b0 := 0x78) rfl
theorem adcAbsY (w : Word) : Statement (.adcAbsY w) := fun m x b1 b2 b3 _ h =>
  (decodeWindow_row7 m x b1 b2 b3 (b0 := 0x79) rfl).trans (congrArg Instr.adcAbsY (word_of_prefix h))
theorem ply : Statement .ply := fun m x b1 b2 b3 _ _ => decodeWindow_row7 m x b1 b2 b3 (b0 := 0x7A) rfl
theorem tdc : Statement .tdc := fun m x b1 b2 b3 _ _ => decodeWindow_row7 m x b1 b2 b3 (b0 := 0x7B) rfl
theorem jmpAbsXInd (w : Word) : Statement (.jmpAbsXInd w) := fun m x b1 b2 b3 _ h =>
  (decodeWindow_row7 m x b1 b2 b3 (b0 := 0x7C) rfl).trans (congrArg Instr.jmpAbsXInd (word_of_prefix h))
theorem adcAbsX (w : Word) : Statement (.adcAbsX w) := fun m x b1 b2 b3 _ h =>
  (decodeWindow_row7 m x b1 b2 b3 (b0 := 0x7D) rfl).trans (congrArg Instr.adcAbsX (word_of_prefix h))
theorem rorAbsX (w : Word) : Statement (.rorAbsX w) := fun m x b1 b2 b3 _ h =>
  (decodeWindow_row7 m x b1 b2 b3 (b0 := 0x7E) rfl).trans (congrArg Instr.rorAbsX (word_of_prefix h))
theorem adcAbsLongX (l : Long) : Statement (.adcAbsLongX l) := fun m x b1 b2 b3 _ h =>
  (decodeWindow_row7 m x b1 b2 b3 (b0 := 0x7F) rfl).trans (congrArg Instr.adcAbsLongX (long_of_prefix h))
theorem bra (b : Byte) : Statement (.bra b) := fun m x b1 b2 b3 _ h =>
  (decodeWindow_row8 m x b1 b2 b3 (b0 := 0x80) rfl).trans (congrArg Instr.bra (byte_of_prefix h))
theorem staDirXInd (b : Byte) : Statement (.staDirXInd b) := fun m x b1 b2 b3 _ h =>
  (decodeWindow_row8 m x b1 b2 b3 (b0 := 0x81) rfl).trans (congrArg Instr.staDirXInd (byte_of_prefix h))
theorem brl (w : Word) : Statement (.brl w) := fun m x b1 b2 b3 _ h =>
  (decodeWindow_row8 m x b1 b2 b3 (b0 := 0x82) rfl).trans (congrArg Instr.brl (word_of_prefix h))
theorem staStk (b : Byte) : Statement (.staStk b) := fun m x b1 b2 b3 _ h =>
  (decodeWindow_row8 m x b1 b2 b3 (b0 := 0x83) rfl).trans (congrArg Instr.staStk (byte_of_prefix h))
theorem styDir (b : Byte) : Statement (.styDir b) := fun m x b1 b2 b3 _ h =>
  (decodeWindow_row8 m x b1 b2 b3 (b0 := 0x84) rfl).trans (congrArg Instr.styDir (byte_of_prefix h))
theorem staDir (b : Byte) : Statement (.staDir b) := fun m x b1 b2 b3 _ h =>
  (decodeWindow_row8 m x b1 b2 b3 (b0 := 0x85) rfl).trans (congrArg Instr.staDir (byte_of_prefix h))
theorem stxDir (b : Byte) : Statement (.stxDir b) := fun m x b1 b2 b3 _ h =>
  (decodeWindow_row8 m x b1 b2 b3 (b0 := 0x86) rfl).trans (congrArg Instr.stxDir (byte_of_prefix h))
theorem staDirIndLong (b : Byte) : Statement (.staDirIndLong b) := fun m x b1 b2 b3 _ h =>
  (decodeWindow_row8 m x b1 b2 b3 (b0 := 0x87) rfl).trans (congrArg Instr.staDirIndLong (byte_of_prefix h))
theorem dey : Statement .dey := fun m x b1 b2 b3 _ _ => decodeWindow_row8 m x b1 b2 b3 (b0 := 0x88) rfl
theorem bitImm (imm : Imm) : Statement (.bitImm imm) := fun m x b1 b2 b3 hf h =>
  (decodeWindow_row8 m x b1 b2 b3 (b0 := 0x89) rfl).trans (congrArg Instr.bitImm (imm_of_prefix hf h))
theorem txa : Statement .txa := fun m x b1 b2 b3 _ _ => decodeWindow_row8 m x b1 b2 b3 (b0 := 0x8A) rfl
theorem phb : Statement .phb := fun m x b1 b2 b3 _ _ => decodeWindow_row8 m x b1 b2 b3 (b0 := 0x8B) rfl
theorem styAbs (w : Word) : Statement (.styAbs w) := fun m x b1 b2 b3 _ h =>
  (decodeWindow_row8 m x b1 b2 b3 (b0 := 0x8C) rfl).trans (congrArg Instr.styAbs (word_of_prefix h))
theorem staAbs (w : Word) : Statement (.staAbs w) := fun m x b1 b2 b3 _ h =>
  (decodeWindow_row8 m x b1 b2 b3 (b0 := 0x8D) rfl).trans (congrArg Instr.staAbs (word_of_prefix h))
theorem stxAbs (w : Word) : Statement (.stxAbs w) := fun m x b1 b2 b3 _ h =>
  (decodeWindow_row8 m x b1 b2 b3 (b0 := 0x8E) rfl).trans (congrArg Instr.stxAbs (word_of_prefix h))
theorem staAbsLong (l : Long) : Statement (.staAbsLong l) := fun m x b1 b2 b3 _ h =>
  (decodeWindow_row8 m x b1 b2 b3 (b0 := 0x8F) rfl).trans (congrArg Instr.staAbsLong (long_of_prefix h))
theorem bcc (b : Byte) : Statement (.bcc b) := fun m x b1 b2 b3 _ h =>
  (decodeWindow_row9 m x b1 b2 b3 (b0 := 0x90) rfl).trans (congrArg Instr.bcc (byte_of_prefix h))
theorem staDirIndY (b : Byte) : Statement (.staDirIndY b) := fun m x b1 b2 b3 _ h =>
  (decodeWindow_row9 m x b1 b2 b3 (b0 := 0x91) rfl).trans (congrArg Instr.staDirIndY (byte_of_prefix h))
theorem staDirInd (b : Byte) : Statement (.staDirInd b) := fun m x b1 b2 b3 _ h =>
  (decodeWindow_row9 m x b1 b2 b3 (b0 := 0x92) rfl).trans (congrArg Instr.staDirInd (byte_of_prefix h))
theorem staStkIndY (b : Byte) : Statement (.staStkIndY b) := fun m x b1 b2 b3 _ h =>
  (decodeWindow_row9 m x b1 b2 b3 (b0 := 0x93) rfl).trans (congrArg Instr.staStkIndY (byte_of_prefix h))
theorem styDirX (b : Byte) : Statement (.styDirX b) := fun m x b1 b2 b3 _ h =>
  (decodeWindow_row9 m x b1 b2 b3 (b0 := 0x94) rfl).trans (congrArg Instr.styDirX (byte_of_prefix h))
theorem staDirX (b : Byte) : Statement (.staDirX b) := fun m x b1 b2 b3 _ h =>
  (decodeWindow_row9 m x b1 b2 b3 (b0 := 0x95) rfl).trans (congrArg Instr.staDirX (byte_of_prefix h))
theorem stxDirY (b : Byte) : Statement (.stxDirY b) := fun m x b1 b2 b3 _ h =>
  (decodeWindow_row9 m x b1 b2 b3 (b0 := 0x96) rfl).trans (congrArg Instr.stxDirY (byte_of_prefix h))
theorem staDirIndLongY (b : Byte) : Statement (.staDirIndLongY b) := fun m x b1 b2 b3 _ h =>
  (decodeWindow_row9 m x b1 b2 b3 (b0 := 0x97) rfl).trans (congrArg Instr.staDirIndLongY (byte_of_prefix h))
theorem tya : Statement .tya := fun m x b1 b2 b3 _ _ => decodeWindow_row9 m x b1 b2 b3 (b0 := 0x98) rfl
theorem staAbsY (w : Word) : Statement (.staAbsY w) := fun m x b1 b2 b3 _ h =>
  (decodeWindow_row9 m x b1 b2 b3 (b0 := 0x99) rfl).trans (congrArg Instr.staAbsY (word_of_prefix h))
theorem txs : Statement .txs := fun m x b1 b2 b3 _ _ => decodeWindow_row9 m x b1 b2 b3 (b0 := 0x9A) rfl
theorem txy : Statement .txy := fun m x b1 b2 b3 _ _ => decodeWindow_row9 m x b1 b2 b3 (b0 := 0x9B) rfl
theorem stzAbs (w : Word) : Statement (.stzAbs w) := fun m x b1 b2 b3 _ h =>
  (decodeWindow_row9 m x b1 b2 b3 (b0 := 0x9C) rfl).trans (congrArg Instr.stzAbs (word_of_prefix h))
theorem staAbsX (w : Word) : Statement (.staAbsX w) := fun m x b1 b2 b3 _ h =>
  (decodeWindow_row9 m x b1 b2 b3 (b0 := 0x9D) rfl).trans (congrArg Instr.staAbsX (word_of_prefix h))
theorem stzAbsX (w : Word) : Statement (.stzAbsX w) := fun m x b1 b2 b3 _ h =>
  (decodeWindow_row9 m x b1 b2 b3 (b0 := 0x9E) rfl).trans (congrArg Instr.stzAbsX (word_of_prefix h))
theorem staAbsLongX (l : Long) : Statement (.staAbsLongX l) := fun m x b1 b2 b3 _ h =>
  (decodeWindow_row9 m x b1 b2 b3 (b0 := 0x9F) rfl).trans (congrArg Instr.staAbsLongX (long_of_prefix h))
theorem ldyImm (imm : Imm) : Statement (.ldyImm imm) := fun m x b1 b2 b3 hf h =>
  (decodeWindow_rowA m x b1 b2 b3 (b0 := 0xA0) rfl).trans (congrArg Instr.ldyImm (imm_of_prefix hf h))
theorem ldaDirXInd (b : Byte) : Statement (.ldaDirXInd b) := fun m x b1 b2 b3 _ h =>
  (decodeWindow_rowA m x b1 b2 b3 (b0 := 0xA1) rfl).trans (congrArg Instr.ldaDirXInd (byte_of_prefix h))
theorem ldxImm (imm : Imm) : Statement (.ldxImm imm) := fun m x b1 b2 b3 hf h =>
  (decodeWindow_rowA m x b1 b2 b3 (b0 := 0xA2) rfl).trans (congrArg Instr.ldxImm (imm_of_prefix hf h))
theorem ldaStk (b : Byte) : Statement (.ldaStk b) := fun m x b1 b2 b3 _ h =>
  (decodeWindow_rowA m x b1 b2 b3 (b0 := 0xA3) rfl).trans (congrArg Instr.ldaStk (byte_of_prefix h))
theorem ldyDir (b : Byte) : Statement (.ldyDir b) := fun m x b1 b2 b3 _ h =>
  (decodeWindow_rowA m x b1 b2 b3 (b0 := 0xA4) rfl).trans (congrArg Instr.ldyDir (byte_of_prefix h))
theorem ldaDir (b : Byte) : Statement (.ldaDir b) := fun m x b1 b2 b3 _ h =>
  (decodeWindow_rowA m x b1 b2 b3 (b0 := 0xA5) rfl).trans (congrArg Instr.ldaDir (byte_of_prefix h))
theorem ldxDir (b : Byte) : Statement (.ldxDir b) := fun m x b1 b2 b3 _ h =>
  (decodeWindow_rowA m x b1 b2 b3 (b0 := 0xA6) rfl).trans (congrArg Instr.ldxDir (byte_of_prefix h))
theorem ldaDirIndLong (b : Byte) : Statement (.ldaDirIndLong b) := fun m x b1 b2 b3 _ h =>
  (decodeWindow_rowA m x b1 b2 b3 (b0 := 0xA7) rfl).trans (congrArg Instr.ldaDirIndLong (byte_of_prefix h))
theorem tay : Statement .tay := fun m x b1 b2 b3 _ _ => decodeWindow_rowA m x b1 b2 b3 (b0 := 0xA8) rfl
theorem ldaImm (imm : Imm) : Statement (.ldaImm imm) := fun m x b1 b2 b3 hf h =>
  (decodeWindow_rowA m x b1 b2 b3 (b0 := 0xA9) rfl).trans (congrArg Instr.ldaImm (imm_of_prefix hf h))
theorem tax : Statement .tax := fun m x b1 b2 b3 _ _ => decodeWindow_rowA m x b1 b2 b3 (b0 := 0xAA) rfl
theorem plb : Statement .plb := fun m x b1 b2 b3 _ _ => decodeWindow_rowA m x b1 b2 b3 (b0 := 0xAB) rfl
theorem ldyAbs (w : Word) : Statement (.ldyAbs w) := fun m x b1 b2 b3 _ h =>
  (decodeWindow_rowA m x b1 b2 b3 (b0 := 0xAC) rfl).trans (congrArg Instr.ldyAbs (word_of_prefix h))
theorem ldaAbs (w : Word) : Statement (.ldaAbs w) := fun m x b1 b2 b3 _ h =>
  (decodeWindow_rowA m x b1 b2 b3 (b0 := 0xAD) rfl).trans (congrArg Instr.ldaAbs (word_of_prefix h))
theorem ldxAbs (w : Word) : Statement (.ldxAbs w) := fun m x b1 b2 b3 _ h =>
  (decodeWindow_rowA m x b1 b2 b3 (b0 := 0xAE) rfl).trans (congrArg Instr.ldxAbs (word_of_prefix h))
theorem ldaAbsLong (l : Long) : Statement (.ldaAbsLong l) := fun m x b1 b2 b3 _ h =>
  (decodeWindow_rowA m x b1 b2 b3 (b0 := 0xAF) rfl).trans (congrArg Instr.ldaAbsLong (long_of_prefix h))
theorem bcs (b : Byte) : Statement (.bcs b) := fun m x b1 b2 b3 _ h =>
  (decodeWindow_rowB m x b1 b2 b3 (b0 := 0xB0) rfl).trans (congrArg Instr.bcs (byte_of_prefix h))
theorem ldaDirIndY (b : Byte) : Statement (.ldaDirIndY b) := fun m x b1 b2 b3 _ h =>
  (decodeWindow_rowB m x b1 b2 b3 (b0 := 0xB1) rfl).trans (congrArg Instr.ldaDirIndY (byte_of_prefix h))
theorem ldaDirInd (b : Byte) : Statement (.ldaDirInd b) := fun m x b1 b2 b3 _ h =>
  (decodeWindow_rowB m x b1 b2 b3 (b0 := 0xB2) rfl).trans (congrArg Instr.ldaDirInd (byte_of_prefix h))
theorem ldaStkIndY (b : Byte) : Statement (.ldaStkIndY b) := fun m x b1 b2 b3 _ h =>
  (decodeWindow_rowB m x b1 b2 b3 (b0 := 0xB3) rfl).trans (congrArg Instr.ldaStkIndY (byte_of_prefix h))
theorem ldyDirX (b : Byte) : Statement (.ldyDirX b) := fun m x b1 b2 b3 _ h =>
  (decodeWindow_rowB m x b1 b2 b3 (b0 := 0xB4) rfl).trans (congrArg Instr.ldyDirX (byte_of_prefix h))
theorem ldaDirX (b : Byte) : Statement (.ldaDirX b) := fun m x b1 b2 b3 _ h =>
  (decodeWindow_rowB m x b1 b2 b3 (b0 := 0xB5) rfl).trans (congrArg Instr.ldaDirX (byte_of_prefix h))
theorem ldxDirY (b : Byte) : Statement (.ldxDirY b) := fun m x b1 b2 b3 _ h =>
  (decodeWindow_rowB m x b1 b2 b3 (b0 := 0xB6) rfl).trans (congrArg Instr.ldxDirY (byte_of_prefix h))
theorem ldaDirIndLongY (b : Byte) : Statement (.ldaDirIndLongY b) := fun m x b1 b2 b3 _ h =>
  (decodeWindow_rowB m x b1 b2 b3 (b0 := 0xB7) rfl).trans (congrArg Instr.ldaDirIndLongY (byte_of_prefix h))
theorem clv : Statement .clv := fun m x b1 b2 b3 _ _ => decodeWindow_rowB m x b1 b2 b3 (b0 := 0xB8) rfl
theorem ldaAbsY (w : Word) : Statement (.ldaAbsY w) := fun m x b1 b2 b3 _ h =>
  (decodeWindow_rowB m x b1 b2 b3 (b0 := 0xB9) rfl).trans (congrArg Instr.ldaAbsY (word_of_prefix h))
theorem tsx : Statement .tsx := fun m x b1 b2 b3 _ _ => decodeWindow_rowB m x b1 b2 b3 (b0 := 0xBA) rfl
theorem tyx : Statement .tyx := fun m x b1 b2 b3 _ _ => decodeWindow_rowB m x b1 b2 b3 (b0 := 0xBB) rfl
theorem ldyAbsX (w : Word) : Statement (.ldyAbsX w) := fun m x b1 b2 b3 _ h =>
  (decodeWindow_rowB m x b1 b2 b3 (b0 := 0xBC) rfl).trans (congrArg Instr.ldyAbsX (word_of_prefix h))
theorem ldaAbsX (w : Word) : Statement (.ldaAbsX w) := fun m x b1 b2 b3 _ h =>
  (decodeWindow_rowB m x b1 b2 b3 (b0 := 0xBD) rfl).trans (congrArg Instr.ldaAbsX (word_of_prefix h))
theorem ldxAbsY (w : Word) : Statement (.ldxAbsY w) := fun m x b1 b2 b3 _ h =>
  (decodeWindow_rowB m x b1 b2 b3 (b0 := 0xBE) rfl).trans (congrArg Instr.ldxAbsY (word_of_prefix h))
theorem ldaAbsLongX (l : Long) : Statement (.ldaAbsLongX l) := fun m x b1 b2 b3 _ h =>
  (decodeWindow_rowB m x b1 b2 b3 (b0 := 0xBF) rfl).trans (congrArg Instr.ldaAbsLongX (long_of_prefix h))
theorem cpyImm (imm : Imm) : Statement (.cpyImm imm) := fun m x b1 b2 b3 hf h =>
  (decodeWindow_rowC m x b1 b2 b3 (b0 := 0xC0) rfl).trans (congrArg Instr.cpyImm (imm_of_prefix hf h))
theorem cmpDirXInd (b : Byte) : Statement (.cmpDirXInd b) := fun m x b1 b2 b3 _ h =>
  (decodeWindow_rowC m x b1 b2 b3 (b0 := 0xC1) rfl).trans (congrArg Instr.cmpDirXInd (byte_of_prefix h))
theorem rep (b : Byte) : Statement (.rep b) := fun m x b1 b2 b3 _ h =>
  (decodeWindow_rowC m x b1 b2 b3 (b0 := 0xC2) rfl).trans (congrArg Instr.rep (byte_of_prefix h))
theorem cmpStk (b : Byte) : Statement (.cmpStk b) := fun m x b1 b2 b3 _ h =>
  (decodeWindow_rowC m x b1 b2 b3 (b0 := 0xC3) rfl).trans (congrArg Instr.cmpStk (byte_of_prefix h))
theorem cpyDir (b : Byte) : Statement (.cpyDir b) := fun m x b1 b2 b3 _ h =>
  (decodeWindow_rowC m x b1 b2 b3 (b0 := 0xC4) rfl).trans (congrArg Instr.cpyDir (byte_of_prefix h))
theorem cmpDir (b : Byte) : Statement (.cmpDir b) := fun m x b1 b2 b3 _ h =>
  (decodeWindow_rowC m x b1 b2 b3 (b0 := 0xC5) rfl).trans (congrArg Instr.cmpDir (byte_of_prefix h))
theorem decDir (b : Byte) : Statement (.decDir b) := fun m x b1 b2 b3 _ h =>
  (decodeWindow_rowC m x b1 b2 b3 (b0 := 0xC6) rfl).trans (congrArg Instr.decDir (byte_of_prefix h))
theorem cmpDirIndLong (b : Byte) : Statement (.cmpDirIndLong b) := fun m x b1 b2 b3 _ h =>
  (decodeWindow_rowC m x b1 b2 b3 (b0 := 0xC7) rfl).trans (congrArg Instr.cmpDirIndLong (byte_of_prefix h))
theorem iny : Statement .iny := fun m x b1 b2 b3 _ _ => decodeWindow_rowC m x b1 b2 b3 (b0 := 0xC8) rfl
theorem cmpImm (imm : Imm) : Statement (.cmpImm imm) := fun m x b1 b2 b3 hf h =>
  (decodeWindow_rowC m x b1 b2 b3 (b0 := 0xC9) rfl).trans (congrArg Instr.cmpImm (imm_of_prefix hf h))
theorem dex : Statement .dex := fun m x b1 b2 b3 _ _ => decodeWindow_rowC m x b1 b2 b3 (b0 := 0xCA) rfl
theorem wai : Statement .wai := fun m x b1 b2 b3 _ _ => decodeWindow_rowC m x b1 b2 b3 (b0 := 0xCB) rfl
theorem cpyAbs (w : Word) : Statement (.cpyAbs w) := fun m x b1 b2 b3 _ h =>
  (decodeWindow_rowC m x b1 b2 b3 (b0 := 0xCC) rfl).trans (congrArg Instr.cpyAbs (word_of_prefix h))
theorem cmpAbs (w : Word) : Statement (.cmpAbs w) := fun m x b1 b2 b3 _ h =>
  (decodeWindow_rowC m x b1 b2 b3 (b0 := 0xCD) rfl).trans (congrArg Instr.cmpAbs (word_of_prefix h))
theorem decAbs (w : Word) : Statement (.decAbs w) := fun m x b1 b2 b3 _ h =>
  (decodeWindow_rowC m x b1 b2 b3 (b0 := 0xCE) rfl).trans (congrArg Instr.decAbs (word_of_prefix h))
theorem cmpAbsLong (l : Long) : Statement (.cmpAbsLong l) := fun m x b1 b2 b3 _ h =>
  (decodeWindow_rowC m x b1 b2 b3 (b0 := 0xCF) rfl).trans (congrArg Instr.cmpAbsLong (long_of_prefix h))
theorem bne (b : Byte) : Statement (.bne b) := fun m x b1 b2 b3 _ h =>
  (decodeWindow_rowD m x b1 b2 b3 (b0 := 0xD0) rfl).trans (congrArg Instr.bne (byte_of_prefix h))
theorem cmpDirIndY (b : Byte) : Statement (.cmpDirIndY b) := fun m x b1 b2 b3 _ h =>
  (decodeWindow_rowD m x b1 b2 b3 (b0 := 0xD1) rfl).trans (congrArg Instr.cmpDirIndY (byte_of_prefix h))
theorem cmpDirInd (b : Byte) : Statement (.cmpDirInd b) := fun m x b1 b2 b3 _ h =>
  (decodeWindow_rowD m x b1 b2 b3 (b0 := 0xD2) rfl).trans (congrArg Instr.cmpDirInd (byte_of_prefix h))
theorem cmpStkIndY (b : Byte) : Statement (.cmpStkIndY b) := fun m x b1 b2 b3 _ h =>
  (decodeWindow_rowD m x b1 b2 b3 (b0 := 0xD3) rfl).trans (congrArg Instr.cmpStkIndY (byte_of_prefix h))
theorem pei (b : Byte) : Statement (.pei b) := fun m x b1 b2 b3 _ h =>
  (decodeWindow_rowD m x b1 b2 b3 (b0 := 0xD4) rfl).trans (congrArg Instr.pei (byte_of_prefix h))
theorem cmpDirX (b : Byte) : Statement (.cmpDirX b) := fun m x b1 b2 b3 _ h =>
  (decodeWindow_rowD m x b1 b2 b3 (b0 := 0xD5) rfl).trans (congrArg Instr.cmpDirX (byte_of_prefix h))
theorem decDirX (b : Byte) : Statement (.decDirX b) := fun m x b1 b2 b3 _ h =>
  (decodeWindow_rowD m x b1 b2 b3 (b0 := 0xD6) rfl).trans (congrArg Instr.decDirX (byte_of_prefix h))
theorem cmpDirIndLongY (b : Byte) : Statement (.cmpDirIndLongY b) := fun m x b1 b2 b3 _ h =>
  (decodeWindow_rowD m x b1 b2 b3 (b0 := 0xD7) rfl).trans (congrArg Instr.cmpDirIndLongY (byte_of_prefix h))
theorem cld : Statement .cld := fun m x b1 b2 b3 _ _ => decodeWindow_rowD m x b1 b2 b3 (b0 := 0xD8) rfl
theorem cmpAbsY (w : Word) : Statement (.cmpAbsY w) := fun m x b1 b2 b3 _ h =>
  (decodeWindow_rowD m x b1 b2 b3 (b0 := 0xD9) rfl).trans (congrArg Instr.cmpAbsY (word_of_prefix h))
theorem phx : Statement .phx := fun m x b1 b2 b3 _ _ => decodeWindow_rowD m x b1 b2 b3 (b0 := 0xDA) rfl
theorem stp : Statement .stp := fun m x b1 b2 b3 _ _ => decodeWindow_rowD m x b1 b2 b3 (b0 := 0xDB) rfl
theorem jmpAbsIndLong (w : Word) : Statement (.jmpAbsIndLong w) := fun m x b1 b2 b3 _ h =>
  (decodeWindow_rowD m x b1 b2 b3 (b0 := 0xDC) rfl).trans (congrArg Instr.jmpAbsIndLong (word_of_prefix h))
theorem cmpAbsX (w : Word) : Statement (.cmpAbsX w) := fun m x b1 b2 b3 _ h =>
  (decodeWindow_rowD m x b1 b2 b3 (b0 := 0xDD) rfl).trans (congrArg Instr.cmpAbsX (word_of_prefix h))
theorem decAbsX (w : Word) : Statement (.decAbsX w) := fun m x b1 b2 b3 _ h =>
  (decodeWindow_rowD m x b1 b2 b3 (b0 := 0xDE) rfl).trans (congrArg Instr.decAbsX (word_of_prefix h))
theorem cmpAbsLongX (l : Long) : Statement (.cmpAbsLongX l) := fun m x b1 b2 b3 _ h =>
  (decodeWindow_rowD m x b1 b2 b3 (b0 := 0xDF) rfl).trans (congrArg Instr.cmpAbsLongX (long_of_prefix h))
theorem cpxImm (imm : Imm) : Statement (.cpxImm imm) := fun m x b1 b2 b3 hf h =>
  (decodeWindow_rowE m x b1 b2 b3 (b0 := 0xE0) rfl).trans (congrArg Instr.cpxImm (imm_of_prefix hf h))
theorem sbcDirXInd (b : Byte) : Statement (.sbcDirXInd b) := fun m x b1 b2 b3 _ h =>
  (decodeWindow_rowE m x b1 b2 b3 (b0 := 0xE1) rfl).trans (congrArg Instr.sbcDirXInd (byte_of_prefix h))
theorem sep (b : Byte) : Statement (.sep b) := fun m x b1 b2 b3 _ h =>
  (decodeWindow_rowE m x b1 b2 b3 (b0 := 0xE2) rfl).trans (congrArg Instr.sep (byte_of_prefix h))
theorem sbcStk (b : Byte) : Statement (.sbcStk b) := fun m x b1 b2 b3 _ h =>
  (decodeWindow_rowE m x b1 b2 b3 (b0 := 0xE3) rfl).trans (congrArg Instr.sbcStk (byte_of_prefix h))
theorem cpxDir (b : Byte) : Statement (.cpxDir b) := fun m x b1 b2 b3 _ h =>
  (decodeWindow_rowE m x b1 b2 b3 (b0 := 0xE4) rfl).trans (congrArg Instr.cpxDir (byte_of_prefix h))
theorem sbcDir (b : Byte) : Statement (.sbcDir b) := fun m x b1 b2 b3 _ h =>
  (decodeWindow_rowE m x b1 b2 b3 (b0 := 0xE5) rfl).trans (congrArg Instr.sbcDir (byte_of_prefix h))
theorem incDir (b : Byte) : Statement (.incDir b) := fun m x b1 b2 b3 _ h =>
  (decodeWindow_rowE m x b1 b2 b3 (b0 := 0xE6) rfl).trans (congrArg Instr.incDir (byte_of_prefix h))
theorem sbcDirIndLong (b : Byte) : Statement (.sbcDirIndLong b) := fun m x b1 b2 b3 _ h =>
  (decodeWindow_rowE m x b1 b2 b3 (b0 := 0xE7) rfl).trans (congrArg Instr.sbcDirIndLong (byte_of_prefix h))
theorem inx : Statement .inx := fun m x b1 b2 b3 _ _ => decodeWindow_rowE m x b1 b2 b3 (b0 := 0xE8) rfl
theorem sbcImm (imm : Imm) : Statement (.sbcImm imm) := fun m x b1 b2 b3 hf h =>
  (decodeWindow_rowE m x b1 b2 b3 (b0 := 0xE9) rfl).trans (congrArg Instr.sbcImm (imm_of_prefix hf h))
theorem nop : Statement .nop := fun m x b1 b2 b3 _ _ => decodeWindow_rowE m x b1 b2 b3 (b0 := 0xEA) rfl
theorem xba : Statement .xba := fun m x b1 b2 b3 _ _ => decodeWindow_rowE m x b1 b2 b3 (b0 := 0xEB) rfl
theorem cpxAbs (w : Word) : Statement (.cpxAbs w) := fun m x b1 b2 b3 _ h =>
  (decodeWindow_rowE m x b1 b2 b3 (b0 := 0xEC) rfl).trans (congrArg Instr.cpxAbs (word_of_prefix h))
theorem sbcAbs (w : Word) : Statement (.sbcAbs w) := fun m x b1 b2 b3 _ h =>
  (decodeWindow_rowE m x b1 b2 b3 (b0 := 0xED) rfl).trans (congrArg Instr.sbcAbs (word_of_prefix h))
theorem incAbs (w : Word) : Statement (.incAbs w) := fun m x b1 b2 b3 _ h =>
  (decodeWindow_rowE m x b1 b2 b3 (b0 := 0xEE) rfl).trans (congrArg Instr.incAbs (word_of_prefix h))
theorem sbcAbsLong (l : Long) : Statement (.sbcAbsLong l) := fun m x b1 b2 b3 _ h =>
  (decodeWindow_rowE m x b1 b2 b3 (b0 := 0xEF) rfl).trans (congrArg Instr.sbcAbsLong (long_of_prefix h))
theorem beq (b : Byte) : Statement (.beq b) := fun m x b1 b2 b3 _ h =>
  (decodeWindow_rowF m x b1 b2 b3 (b0 := 0xF0) rfl).trans (congrArg Instr.beq (byte_of_prefix h))
theorem sbcDirIndY (b : Byte) : Statement (.sbcDirIndY b) := fun m x b1 b2 b3 _ h =>
  (decodeWindow_rowF m x b1 b2 b3 (b0 := 0xF1) rfl).trans (congrArg Instr.sbcDirIndY (byte_of_prefix h))
theorem sbcDirInd (b : Byte) : Statement (.sbcDirInd b) := fun m x b1 b2 b3 _ h =>
  (decodeWindow_rowF m x b1 b2 b3 (b0 := 0xF2) rfl).trans (congrArg Instr.sbcDirInd (byte_of_prefix h))
theorem sbcStkIndY (b : Byte) : Statement (.sbcStkIndY b) := fun m x b1 b2 b3 _ h =>
  (decodeWindow_rowF m x b1 b2 b3 (b0 := 0xF3) rfl).trans (congrArg Instr.sbcStkIndY (byte_of_prefix h))
theorem pea (w : Word) : Statement (.pea w) := fun m x b1 b2 b3 _ h =>
  (decodeWindow_rowF m x b1 b2 b3 (b0 := 0xF4) rfl).trans (congrArg Instr.pea (word_of_prefix h))
theorem sbcDirX (b : Byte) : Statement (.sbcDirX b) := fun m x b1 b2 b3 _ h =>
  (decodeWindow_rowF m x b1 b2 b3 (b0 := 0xF5) rfl).trans (congrArg Instr.sbcDirX (byte_of_prefix h))
theorem incDirX (b : Byte) : Statement (.incDirX b) := fun m x b1 b2 b3 _ h =>
  (decodeWindow_rowF m x b1 b2 b3 (b0 := 0xF6) rfl).trans (congrArg Instr.incDirX (byte_of_prefix h))
theorem sbcDirIndLongY (b : Byte) : Statement (.sbcDirIndLongY b) := fun m x b1 b2 b3 _ h =>
  (decodeWindow_rowF m x b1 b2 b3 (b0 := 0xF7) rfl).trans (congrArg Instr.sbcDirIndLongY (byte_of_prefix h))
theorem sed : Statement .sed := fun m x b1 b2 b3 _ _ => decodeWindow_rowF m x b1 b2 b3 (b0 := 0xF8) rfl
theorem sbcAbsY (w : Word) : Statement (.sbcAbsY w) := fun m x b1 b2 b3 _ h =>
  (decodeWindow_rowF m x b1 b2 b3 (b0 := 0xF9) rfl).trans (congrArg Instr.sbcAbsY (word_of_prefix h))
theorem plx : Statement .plx := fun m x b1 b2 b3 _ _ => decodeWindow_rowF m x b1 b2 b3 (b0 := 0xFA) rfl
theorem xce : Statement .xce := fun m x b1 b2 b3 _ _ => decodeWindow_rowF m x b1 b2 b3 (b0 := 0xFB) rfl
theorem jsrAbsXInd (w : Word) : Statement (.jsrAbsXInd w) := fun m x b1 b2 b3 _ h =>
  (decodeWindow_rowF m x b1 b2 b3 (b0 := 0xFC) rfl).trans (congrArg Instr.jsrAbsXInd (word_of_prefix h))
theorem sbcAbsX (w : Word) : Statement (.sbcAbsX w) := fun m x b1 b2 b3 _ h =>
  (decodeWindow_rowF m x b1 b2 b3 (b0 := 0xFD) rfl).trans (congrArg Instr.sbcAbsX (word_of_prefix h))
theorem incAbsX (w : Word) : Statement (.incAbsX w) := fun m x b1 b2 b3 _ h =>
  (decodeWindow_rowF m x b1 b2 b3 (b0 := 0xFE) rfl).trans (congrArg Instr.incAbsX (word_of_prefix h))
theorem sbcAbsLongX (l : Long) : Statement (.sbcAbsLongX l) := fun m x b1 b2 b3 _ h =>
  (decodeWindow_rowF m x b1 b2 b3 (b0 := 0xFF) rfl).trans (congrArg Instr.sbcAbsLongX (long_of_prefix h))

end Sys2Proof.Laws.DecodesBack
end

