-- ==== Sys2Proof/Tests/Slice0.lean ====
section
/-!
SUPPORT. Tests/Slice0.lean: the checks refuse what they must, every opcode of the map decodes from bytes written out from
spec/30_encoding.md R101, R105, R107, the instructions do on small states what the spec's own examples and vectors say
(spec/95_test_vectors.md), and every statement with hypotheses has a state that meets them.
-/

namespace Sys2Proof.Tests

open Sys2Proof.Machine

/-! ### WellFormed refuses an immediate of the wrong width (R103) -/

theorem test_wide_immediate_refused_when_m_is_1 :
    ([.oraImm (.w16 1), .andImm (.w16 1), .eorImm (.w16 1), .adcImm (.w16 1), .bitImm (.w16 1), .ldaImm (.w16 1),
      .cmpImm (.w16 1), .sbcImm (.w16 1)] : List Instr).all (fun i => !WellFormed true false i) = true := by decide

theorem test_narrow_immediate_refused_when_m_is_0 :
    ([.oraImm (.b8 1), .andImm (.b8 1), .eorImm (.b8 1), .adcImm (.b8 1), .bitImm (.b8 1), .ldaImm (.b8 1),
      .cmpImm (.b8 1), .sbcImm (.b8 1)] : List Instr).all (fun i => !WellFormed false true i) = true := by decide

theorem test_wide_immediate_refused_when_x_is_1 :
    ([.ldxImm (.w16 1), .ldyImm (.w16 1), .cpxImm (.w16 1), .cpyImm (.w16 1)] : List Instr).all
      (fun i => !WellFormed false true i) = true := by decide

theorem test_narrow_immediate_refused_when_x_is_0 :
    ([.ldxImm (.b8 1), .ldyImm (.b8 1), .cpxImm (.b8 1), .cpyImm (.b8 1)] : List Instr).all
      (fun i => !WellFormed true false i) = true := by decide

theorem test_short_lists_rejected_by_name :
    decode true true [] = .error .empty ∧ decode true true [0x5C, 0x00, 0x20] = .error (.truncated 0x5C) ∧
    decode false true [0xA9, 0x01] = .error (.truncated 0xA9) := by decide

/-! ### Decoding, row by row of the map (R105): the bytes of each opcode with the operands 12, 34, 56 (hexadecimal) of its
mode, least significant first (R101, R102, R107), all of them consumed, `P.M = P.X = 1`; then the 16-bit immediates. -/

/-- The bytes decode to the instruction with nothing left over, and the instruction encodes to the bytes. -/
def reads (m x : Bool) (c : List Byte × Instr) : Bool :=
  decide (decode m x c.1 = .ok (c.2, [])) && decide (encode c.2 = c.1)

theorem test_decode_row_0 : ([
    ([0x00, 0x12], .brk 0x12),
    ([0x01, 0x12], .oraDirXInd 0x12),
    ([0x02, 0x12], .cop 0x12),
    ([0x03, 0x12], .oraStk 0x12),
    ([0x04, 0x12], .tsbDir 0x12),
    ([0x05, 0x12], .oraDir 0x12),
    ([0x06, 0x12], .aslDir 0x12),
    ([0x07, 0x12], .oraDirIndLong 0x12),
    ([0x08], .php),
    ([0x09, 0x12], .oraImm (.b8 0x12)),
    ([0x0A], .aslAcc),
    ([0x0B], .phd),
    ([0x0C, 0x12, 0x34], .tsbAbs 0x3412),
    ([0x0D, 0x12, 0x34], .oraAbs 0x3412),
    ([0x0E, 0x12, 0x34], .aslAbs 0x3412),
    ([0x0F, 0x12, 0x34, 0x56], .oraAbsLong 0x563412)] : List (List Byte × Instr)).all (reads true true) = true := by decide

theorem test_decode_row_1 : ([
    ([0x10, 0x12], .bpl 0x12),
    ([0x11, 0x12], .oraDirIndY 0x12),
    ([0x12, 0x12], .oraDirInd 0x12),
    ([0x13, 0x12], .oraStkIndY 0x12),
    ([0x14, 0x12], .trbDir 0x12),
    ([0x15, 0x12], .oraDirX 0x12),
    ([0x16, 0x12], .aslDirX 0x12),
    ([0x17, 0x12], .oraDirIndLongY 0x12),
    ([0x18], .clc),
    ([0x19, 0x12, 0x34], .oraAbsY 0x3412),
    ([0x1A], .incAcc),
    ([0x1B], .tcs),
    ([0x1C, 0x12, 0x34], .trbAbs 0x3412),
    ([0x1D, 0x12, 0x34], .oraAbsX 0x3412),
    ([0x1E, 0x12, 0x34], .aslAbsX 0x3412),
    ([0x1F, 0x12, 0x34, 0x56], .oraAbsLongX 0x563412)] : List (List Byte × Instr)).all (reads true true) = true := by decide

theorem test_decode_row_2 : ([
    ([0x20, 0x12, 0x34], .jsrAbs 0x3412),
    ([0x21, 0x12], .andDirXInd 0x12),
    ([0x22, 0x12, 0x34, 0x56], .jslAbsLong 0x563412),
    ([0x23, 0x12], .andStk 0x12),
    ([0x24, 0x12], .bitDir 0x12),
    ([0x25, 0x12], .andDir 0x12),
    ([0x26, 0x12], .rolDir 0x12),
    ([0x27, 0x12], .andDirIndLong 0x12),
    ([0x28], .plp),
    ([0x29, 0x12], .andImm (.b8 0x12)),
    ([0x2A], .rolAcc),
    ([0x2B], .pld),
    ([0x2C, 0x12, 0x34], .bitAbs 0x3412),
    ([0x2D, 0x12, 0x34], .andAbs 0x3412),
    ([0x2E, 0x12, 0x34], .rolAbs 0x3412),
    ([0x2F, 0x12, 0x34, 0x56], .andAbsLong 0x563412)] : List (List Byte × Instr)).all (reads true true) = true := by decide

theorem test_decode_row_3 : ([
    ([0x30, 0x12], .bmi 0x12),
    ([0x31, 0x12], .andDirIndY 0x12),
    ([0x32, 0x12], .andDirInd 0x12),
    ([0x33, 0x12], .andStkIndY 0x12),
    ([0x34, 0x12], .bitDirX 0x12),
    ([0x35, 0x12], .andDirX 0x12),
    ([0x36, 0x12], .rolDirX 0x12),
    ([0x37, 0x12], .andDirIndLongY 0x12),
    ([0x38], .sec),
    ([0x39, 0x12, 0x34], .andAbsY 0x3412),
    ([0x3A], .decAcc),
    ([0x3B], .tsc),
    ([0x3C, 0x12, 0x34], .bitAbsX 0x3412),
    ([0x3D, 0x12, 0x34], .andAbsX 0x3412),
    ([0x3E, 0x12, 0x34], .rolAbsX 0x3412),
    ([0x3F, 0x12, 0x34, 0x56], .andAbsLongX 0x563412)] : List (List Byte × Instr)).all (reads true true) = true := by decide

theorem test_decode_row_4 : ([
    ([0x40], .rti),
    ([0x41, 0x12], .eorDirXInd 0x12),
    ([0x42, 0x12], .wdm 0x12),
    ([0x43, 0x12], .eorStk 0x12),
    ([0x44, 0x12, 0x34], .mvp 0x3412),
    ([0x45, 0x12], .eorDir 0x12),
    ([0x46, 0x12], .lsrDir 0x12),
    ([0x47, 0x12], .eorDirIndLong 0x12),
    ([0x48], .pha),
    ([0x49, 0x12], .eorImm (.b8 0x12)),
    ([0x4A], .lsrAcc),
    ([0x4B], .phk),
    ([0x4C, 0x12, 0x34], .jmpAbs 0x3412),
    ([0x4D, 0x12, 0x34], .eorAbs 0x3412),
    ([0x4E, 0x12, 0x34], .lsrAbs 0x3412),
    ([0x4F, 0x12, 0x34, 0x56], .eorAbsLong 0x563412)] : List (List Byte × Instr)).all (reads true true) = true := by decide

theorem test_decode_row_5 : ([
    ([0x50, 0x12], .bvc 0x12),
    ([0x51, 0x12], .eorDirIndY 0x12),
    ([0x52, 0x12], .eorDirInd 0x12),
    ([0x53, 0x12], .eorStkIndY 0x12),
    ([0x54, 0x12, 0x34], .mvn 0x3412),
    ([0x55, 0x12], .eorDirX 0x12),
    ([0x56, 0x12], .lsrDirX 0x12),
    ([0x57, 0x12], .eorDirIndLongY 0x12),
    ([0x58], .cli),
    ([0x59, 0x12, 0x34], .eorAbsY 0x3412),
    ([0x5A], .phy),
    ([0x5B], .tcd),
    ([0x5C, 0x12, 0x34, 0x56], .jmpAbsLong 0x563412),
    ([0x5D, 0x12, 0x34], .eorAbsX 0x3412),
    ([0x5E, 0x12, 0x34], .lsrAbsX 0x3412),
    ([0x5F, 0x12, 0x34, 0x56], .eorAbsLongX 0x563412)] : List (List Byte × Instr)).all (reads true true) = true := by decide

theorem test_decode_row_6 : ([
    ([0x60], .rts),
    ([0x61, 0x12], .adcDirXInd 0x12),
    ([0x62, 0x12, 0x34], .per 0x3412),
    ([0x63, 0x12], .adcStk 0x12),
    ([0x64, 0x12], .stzDir 0x12),
    ([0x65, 0x12], .adcDir 0x12),
    ([0x66, 0x12], .rorDir 0x12),
    ([0x67, 0x12], .adcDirIndLong 0x12),
    ([0x68], .pla),
    ([0x69, 0x12], .adcImm (.b8 0x12)),
    ([0x6A], .rorAcc),
    ([0x6B], .rtl),
    ([0x6C, 0x12, 0x34], .jmpAbsInd 0x3412),
    ([0x6D, 0x12, 0x34], .adcAbs 0x3412),
    ([0x6E, 0x12, 0x34], .rorAbs 0x3412),
    ([0x6F, 0x12, 0x34, 0x56], .adcAbsLong 0x563412)] : List (List Byte × Instr)).all (reads true true) = true := by decide

theorem test_decode_row_7 : ([
    ([0x70, 0x12], .bvs 0x12),
    ([0x71, 0x12], .adcDirIndY 0x12),
    ([0x72, 0x12], .adcDirInd 0x12),
    ([0x73, 0x12], .adcStkIndY 0x12),
    ([0x74, 0x12], .stzDirX 0x12),
    ([0x75, 0x12], .adcDirX 0x12),
    ([0x76, 0x12], .rorDirX 0x12),
    ([0x77, 0x12], .adcDirIndLongY 0x12),
    ([0x78], .sei),
    ([0x79, 0x12, 0x34], .adcAbsY 0x3412),
    ([0x7A], .ply),
    ([0x7B], .tdc),
    ([0x7C, 0x12, 0x34], .jmpAbsXInd 0x3412),
    ([0x7D, 0x12, 0x34], .adcAbsX 0x3412),
    ([0x7E, 0x12, 0x34], .rorAbsX 0x3412),
    ([0x7F, 0x12, 0x34, 0x56], .adcAbsLongX 0x563412)] : List (List Byte × Instr)).all (reads true true) = true := by decide

theorem test_decode_row_8 : ([
    ([0x80, 0x12], .bra 0x12),
    ([0x81, 0x12], .staDirXInd 0x12),
    ([0x82, 0x12, 0x34], .brl 0x3412),
    ([0x83, 0x12], .staStk 0x12),
    ([0x84, 0x12], .styDir 0x12),
    ([0x85, 0x12], .staDir 0x12),
    ([0x86, 0x12], .stxDir 0x12),
    ([0x87, 0x12], .staDirIndLong 0x12),
    ([0x88], .dey),
    ([0x89, 0x12], .bitImm (.b8 0x12)),
    ([0x8A], .txa),
    ([0x8B], .phb),
    ([0x8C, 0x12, 0x34], .styAbs 0x3412),
    ([0x8D, 0x12, 0x34], .staAbs 0x3412),
    ([0x8E, 0x12, 0x34], .stxAbs 0x3412),
    ([0x8F, 0x12, 0x34, 0x56], .staAbsLong 0x563412)] : List (List Byte × Instr)).all (reads true true) = true := by decide

theorem test_decode_row_9 : ([
    ([0x90, 0x12], .bcc 0x12),
    ([0x91, 0x12], .staDirIndY 0x12),
    ([0x92, 0x12], .staDirInd 0x12),
    ([0x93, 0x12], .staStkIndY 0x12),
    ([0x94, 0x12], .styDirX 0x12),
    ([0x95, 0x12], .staDirX 0x12),
    ([0x96, 0x12], .stxDirY 0x12),
    ([0x97, 0x12], .staDirIndLongY 0x12),
    ([0x98], .tya),
    ([0x99, 0x12, 0x34], .staAbsY 0x3412),
    ([0x9A], .txs),
    ([0x9B], .txy),
    ([0x9C, 0x12, 0x34], .stzAbs 0x3412),
    ([0x9D, 0x12, 0x34], .staAbsX 0x3412),
    ([0x9E, 0x12, 0x34], .stzAbsX 0x3412),
    ([0x9F, 0x12, 0x34, 0x56], .staAbsLongX 0x563412)] : List (List Byte × Instr)).all (reads true true) = true := by decide

theorem test_decode_row_A : ([
    ([0xA0, 0x12], .ldyImm (.b8 0x12)),
    ([0xA1, 0x12], .ldaDirXInd 0x12),
    ([0xA2, 0x12], .ldxImm (.b8 0x12)),
    ([0xA3, 0x12], .ldaStk 0x12),
    ([0xA4, 0x12], .ldyDir 0x12),
    ([0xA5, 0x12], .ldaDir 0x12),
    ([0xA6, 0x12], .ldxDir 0x12),
    ([0xA7, 0x12], .ldaDirIndLong 0x12),
    ([0xA8], .tay),
    ([0xA9, 0x12], .ldaImm (.b8 0x12)),
    ([0xAA], .tax),
    ([0xAB], .plb),
    ([0xAC, 0x12, 0x34], .ldyAbs 0x3412),
    ([0xAD, 0x12, 0x34], .ldaAbs 0x3412),
    ([0xAE, 0x12, 0x34], .ldxAbs 0x3412),
    ([0xAF, 0x12, 0x34, 0x56], .ldaAbsLong 0x563412)] : List (List Byte × Instr)).all (reads true true) = true := by decide

theorem test_decode_row_B : ([
    ([0xB0, 0x12], .bcs 0x12),
    ([0xB1, 0x12], .ldaDirIndY 0x12),
    ([0xB2, 0x12], .ldaDirInd 0x12),
    ([0xB3, 0x12], .ldaStkIndY 0x12),
    ([0xB4, 0x12], .ldyDirX 0x12),
    ([0xB5, 0x12], .ldaDirX 0x12),
    ([0xB6, 0x12], .ldxDirY 0x12),
    ([0xB7, 0x12], .ldaDirIndLongY 0x12),
    ([0xB8], .clv),
    ([0xB9, 0x12, 0x34], .ldaAbsY 0x3412),
    ([0xBA], .tsx),
    ([0xBB], .tyx),
    ([0xBC, 0x12, 0x34], .ldyAbsX 0x3412),
    ([0xBD, 0x12, 0x34], .ldaAbsX 0x3412),
    ([0xBE, 0x12, 0x34], .ldxAbsY 0x3412),
    ([0xBF, 0x12, 0x34, 0x56], .ldaAbsLongX 0x563412)] : List (List Byte × Instr)).all (reads true true) = true := by decide

theorem test_decode_row_C : ([
    ([0xC0, 0x12], .cpyImm (.b8 0x12)),
    ([0xC1, 0x12], .cmpDirXInd 0x12),
    ([0xC2, 0x12], .rep 0x12),
    ([0xC3, 0x12], .cmpStk 0x12),
    ([0xC4, 0x12], .cpyDir 0x12),
    ([0xC5, 0x12], .cmpDir 0x12),
    ([0xC6, 0x12], .decDir 0x12),
    ([0xC7, 0x12], .cmpDirIndLong 0x12),
    ([0xC8], .iny),
    ([0xC9, 0x12], .cmpImm (.b8 0x12)),
    ([0xCA], .dex),
    ([0xCB], .wai),
    ([0xCC, 0x12, 0x34], .cpyAbs 0x3412),
    ([0xCD, 0x12, 0x34], .cmpAbs 0x3412),
    ([0xCE, 0x12, 0x34], .decAbs 0x3412),
    ([0xCF, 0x12, 0x34, 0x56], .cmpAbsLong 0x563412)] : List (List Byte × Instr)).all (reads true true) = true := by decide

theorem test_decode_row_D : ([
    ([0xD0, 0x12], .bne 0x12),
    ([0xD1, 0x12], .cmpDirIndY 0x12),
    ([0xD2, 0x12], .cmpDirInd 0x12),
    ([0xD3, 0x12], .cmpStkIndY 0x12),
    ([0xD4, 0x12], .pei 0x12),
    ([0xD5, 0x12], .cmpDirX 0x12),
    ([0xD6, 0x12], .decDirX 0x12),
    ([0xD7, 0x12], .cmpDirIndLongY 0x12),
    ([0xD8], .cld),
    ([0xD9, 0x12, 0x34], .cmpAbsY 0x3412),
    ([0xDA], .phx),
    ([0xDB], .stp),
    ([0xDC, 0x12, 0x34], .jmpAbsIndLong 0x3412),
    ([0xDD, 0x12, 0x34], .cmpAbsX 0x3412),
    ([0xDE, 0x12, 0x34], .decAbsX 0x3412),
    ([0xDF, 0x12, 0x34, 0x56], .cmpAbsLongX 0x563412)] : List (List Byte × Instr)).all (reads true true) = true := by decide

theorem test_decode_row_E : ([
    ([0xE0, 0x12], .cpxImm (.b8 0x12)),
    ([0xE1, 0x12], .sbcDirXInd 0x12),
    ([0xE2, 0x12], .sep 0x12),
    ([0xE3, 0x12], .sbcStk 0x12),
    ([0xE4, 0x12], .cpxDir 0x12),
    ([0xE5, 0x12], .sbcDir 0x12),
    ([0xE6, 0x12], .incDir 0x12),
    ([0xE7, 0x12], .sbcDirIndLong 0x12),
    ([0xE8], .inx),
    ([0xE9, 0x12], .sbcImm (.b8 0x12)),
    ([0xEA], .nop),
    ([0xEB], .xba),
    ([0xEC, 0x12, 0x34], .cpxAbs 0x3412),
    ([0xED, 0x12, 0x34], .sbcAbs 0x3412),
    ([0xEE, 0x12, 0x34], .incAbs 0x3412),
    ([0xEF, 0x12, 0x34, 0x56], .sbcAbsLong 0x563412)] : List (List Byte × Instr)).all (reads true true) = true := by decide

theorem test_decode_row_F : ([
    ([0xF0, 0x12], .beq 0x12),
    ([0xF1, 0x12], .sbcDirIndY 0x12),
    ([0xF2, 0x12], .sbcDirInd 0x12),
    ([0xF3, 0x12], .sbcStkIndY 0x12),
    ([0xF4, 0x12, 0x34], .pea 0x3412),
    ([0xF5, 0x12], .sbcDirX 0x12),
    ([0xF6, 0x12], .incDirX 0x12),
    ([0xF7, 0x12], .sbcDirIndLongY 0x12),
    ([0xF8], .sed),
    ([0xF9, 0x12, 0x34], .sbcAbsY 0x3412),
    ([0xFA], .plx),
    ([0xFB], .xce),
    ([0xFC, 0x12, 0x34], .jsrAbsXInd 0x3412),
    ([0xFD, 0x12, 0x34], .sbcAbsX 0x3412),
    ([0xFE, 0x12, 0x34], .incAbsX 0x3412),
    ([0xFF, 0x12, 0x34, 0x56], .sbcAbsLongX 0x563412)] : List (List Byte × Instr)).all (reads true true) = true := by decide

theorem test_decode_wide_immediates : ([
    ([0x09, 0x12, 0x34], .oraImm (.w16 0x3412)),
    ([0x29, 0x12, 0x34], .andImm (.w16 0x3412)),
    ([0x49, 0x12, 0x34], .eorImm (.w16 0x3412)),
    ([0x69, 0x12, 0x34], .adcImm (.w16 0x3412)),
    ([0x89, 0x12, 0x34], .bitImm (.w16 0x3412)),
    ([0xA0, 0x12, 0x34], .ldyImm (.w16 0x3412)),
    ([0xA2, 0x12, 0x34], .ldxImm (.w16 0x3412)),
    ([0xA9, 0x12, 0x34], .ldaImm (.w16 0x3412)),
    ([0xC0, 0x12, 0x34], .cpyImm (.w16 0x3412)),
    ([0xC9, 0x12, 0x34], .cmpImm (.w16 0x3412)),
    ([0xE0, 0x12, 0x34], .cpxImm (.w16 0x3412)),
    ([0xE9, 0x12, 0x34], .sbcImm (.w16 0x3412))] : List (List Byte × Instr)).all (reads false false) = true := by decide

/-! ### One step on a small state: vectors of spec/95_test_vectors.md section 2, the name of the vector in the test's name -/

/-- A platform of one RAM with bytes loaded along the code addresses of `pc`. -/
def loaded (pc : Long) (bytes : List Byte) : List Device :=
  (bytes.zipIdx).foldl (fun ds c => loadByte ds (codeAddr pc c.2) c.1) platform

/-- A boundary state with these registers, `P` and `EP.E`, and these bytes at `PC`. -/
def start (bytes : List Byte) (a x y : Word) (p : Byte) (e : Bool) (pc dbr : Long) : State :=
  toBoundary { State.reset with
    regs := { State.reset.regs with a := a, x := x, y := y, p := .ofByte p, epE := e, pc := pc, dbr := dbr }
    pins := { State.reset.pins with eLine := e }
    devices := loaded pc bytes }

/-- What a test looks at after a step. -/
structure Seen where
  a : Word
  x : Word
  y : Word
  p : Byte
  e : Bool
  pc : Long
  /-- The listed bytes of memory. -/
  bytes : List Byte
  deriving DecidableEq, Repr

/-- The view of a next state; `none` for a fault or a refusal. -/
def seen (at_ : List Long) : Result → Option Seen
  | .next t => some ⟨t.regs.a, t.regs.x, t.regs.y, t.regs.p.toByte, t.regs.epE, t.regs.pc, at_.map t.busByte⟩
  | _ => none

theorem test_VF1_clc : seen [] (step (start [0x18] 0x0000 0x0000 0x0000 0x35 true 0x002000 0x000000)) =
    some ⟨0x0000, 0x0000, 0x0000, 0x34, true, 0x002001, []⟩ := by decide

theorem test_VF3_sec : seen [] (step (start [0x38] 0x0000 0x0000 0x0000 0x34 true 0x002000 0x000000)) =
    some ⟨0x0000, 0x0000, 0x0000, 0x35, true, 0x002001, []⟩ := by decide

theorem test_VF5_xce_to_native : seen [] (step (start [0xFB] 0x0000 0x0000 0x0000 0x34 true 0x002000 0x000000)) =
    some ⟨0x0000, 0x0000, 0x0000, 0x35, false, 0x002001, []⟩ := by decide

theorem test_VF7_xce_to_emulation : seen [] (step (start [0xFB] 0x5566 0x1234 0xABCD 0x05 false 0x002000 0x000000)) =
    some ⟨0x5566, 0x0034, 0x00CD, 0x34, true, 0x002001, []⟩ := by decide

theorem test_VF9_rep_native : seen [] (step (start [0xC2, 0x30] 0x0000 0x0000 0x0000 0x35 false 0x002000 0x000000)) =
    some ⟨0x0000, 0x0000, 0x0000, 0x05, false, 0x002002, []⟩ := by decide

theorem test_VF12_rep_emulation : seen [] (step (start [0xC2, 0xFF] 0x0000 0x0000 0x0000 0xFF true 0x002000 0x000000)) =
    some ⟨0x0000, 0x0000, 0x0000, 0x30, true, 0x002002, []⟩ := by decide

theorem test_VF16_sep_index_width : seen [] (step (start [0xE2, 0x10] 0x0000 0xFFFF 0x8001 0x04 false 0x002000 0x000000)) =
    some ⟨0x0000, 0x00FF, 0x0001, 0x14, false, 0x002002, []⟩ := by decide

theorem test_VF19_sep_emulation : seen [] (step (start [0xE2, 0x09] 0x0000 0x0000 0x0000 0x34 true 0x002000 0x000000)) =
    some ⟨0x0000, 0x0000, 0x0000, 0x3D, true, 0x002002, []⟩ := by decide

theorem test_VA3_adc_keeps_ah : seen [] (step (start [0x69, 0x01] 0x12FF 0x0000 0x0000 0x34 true 0x002000 0x000000)) =
    some ⟨0x1200, 0x0000, 0x0000, 0x37, true, 0x002002, []⟩ := by decide

theorem test_VA15_adc_carry_corner : seen [] (step (start [0x69, 0xFF, 0xFF] 0x1234 0x0000 0x0000 0x05 false 0x002000 0x000000)) =
    some ⟨0x1234, 0x0000, 0x0000, 0x05, false, 0x002003, []⟩ := by decide

theorem test_VL4_lda_wide : seen [] (step (start [0xA9, 0x00, 0x80] 0x1234 0x0000 0x0000 0x14 false 0x002000 0x000000)) =
    some ⟨0x8000, 0x0000, 0x0000, 0x94, false, 0x002003, []⟩ := by decide

theorem test_VL7_lda_across_bank_end : seen [] (step (start [0xA9, 0xFF] 0x0000 0x0000 0x0000 0x34 true 0x01FFFF 0x000000)) =
    some ⟨0x00FF, 0x0000, 0x0000, 0xB4, true, 0x010001, []⟩ := by decide

theorem test_VL8_ldx_narrow : seen [] (step (start [0xA2, 0xFF] 0x0000 0x0000 0x0000 0x34 true 0x002000 0x000000)) =
    some ⟨0x0000, 0x00FF, 0x0000, 0xB4, true, 0x002002, []⟩ := by decide

theorem test_VL10_ldx_wide : seen [] (step (start [0xA2, 0x00, 0x80] 0x0000 0x0000 0x0000 0x24 false 0x002000 0x000000)) =
    some ⟨0x0000, 0x8000, 0x0000, 0xA4, false, 0x002003, []⟩ := by decide

theorem test_VL13_ldy_narrow : seen [] (step (start [0xA0, 0x81] 0x0000 0x0000 0x0000 0x34 true 0x002000 0x000000)) =
    some ⟨0x0000, 0x0000, 0x0081, 0xB4, true, 0x002002, []⟩ := by decide

theorem test_VL14_ldy_wide : seen [] (step (start [0xA0, 0x34, 0x12] 0x0000 0x0000 0x0000 0x24 false 0x002000 0x000000)) =
    some ⟨0x0000, 0x0000, 0x1234, 0x24, false, 0x002003, []⟩ := by decide

theorem test_VL16_sta_wide : seen [0x003000, 0x003001] (step (start [0x8D, 0x00, 0x30] 0xBEEF 0x0000 0x0000 0x14 false 0x002000 0x000000)) =
    some ⟨0xBEEF, 0x0000, 0x0000, 0x14, false, 0x002003, [0xEF, 0xBE]⟩ := by decide

theorem test_VL18_sta_across_space_end : seen [0xFFFFFF, 0x000000] (step (start [0x8D, 0xFF, 0xFF] 0xBEEF 0x0000 0x0000 0x14 false 0x002000 0xFF0000)) =
    some ⟨0xBEEF, 0x0000, 0x0000, 0x14, false, 0x002003, [0xEF, 0xBE]⟩ := by decide

theorem test_VJ2_jmp_keeps_bank : seen [] (step (start [0x4C, 0x00, 0x20] 0x0000 0x0000 0x0000 0x34 true 0x018000 0x000000)) =
    some ⟨0x0000, 0x0000, 0x0000, 0x34, true, 0x012000, []⟩ := by decide

theorem test_VJ3_jmp_across_bank_end : seen [] (step (start [0x4C, 0x34, 0x12] 0x0000 0x0000 0x0000 0x34 true 0x02FFFE 0x000000)) =
    some ⟨0x0000, 0x0000, 0x0000, 0x34, true, 0x021234, []⟩ := by decide

theorem test_VJ5_jml : seen [] (step (start [0x5C, 0x00, 0x20, 0x01] 0x0000 0x0000 0x0000 0x34 true 0x002000 0x000000)) =
    some ⟨0x0000, 0x0000, 0x0000, 0x34, true, 0x012000, []⟩ := by decide

theorem test_VJ6_jml_across_bank_end : seen [] (step (start [0x5C, 0x34, 0x12, 0xFF] 0x0000 0x0000 0x0000 0x34 true 0x00FFFD 0x000000)) =
    some ⟨0x0000, 0x0000, 0x0000, 0x34, true, 0xFF1234, []⟩ := by decide

theorem test_VI2_inx_narrow_wrap : seen [] (step (start [0xE8] 0x0000 0x00FF 0x0000 0x34 true 0x002000 0x000000)) =
    some ⟨0x0000, 0x0000, 0x0000, 0x36, true, 0x002001, []⟩ := by decide

theorem test_VI4_inx_wide_carry : seen [] (step (start [0xE8] 0x0000 0x00FF 0x0000 0x24 false 0x002000 0x000000)) =
    some ⟨0x0000, 0x0100, 0x0000, 0x24, false, 0x002001, []⟩ := by decide

theorem test_VI7_iny_wide_carry : seen [] (step (start [0xC8] 0x0000 0x0000 0x00FF 0x24 false 0x002000 0x000000)) =
    some ⟨0x0000, 0x0000, 0x0100, 0x24, false, 0x002001, []⟩ := by decide

theorem test_VI9_iny_negative : seen [] (step (start [0xC8] 0x0000 0x0000 0x0080 0x34 true 0x002000 0x000000)) =
    some ⟨0x0000, 0x0000, 0x0081, 0xB4, true, 0x002001, []⟩ := by decide

theorem test_VI10_dex_narrow_borrow : seen [] (step (start [0xCA] 0x0000 0x0000 0x0000 0x34 true 0x002000 0x000000)) =
    some ⟨0x0000, 0x00FF, 0x0000, 0xB4, true, 0x002001, []⟩ := by decide

theorem test_VI13_dex_wide_borrow : seen [] (step (start [0xCA] 0x0000 0x0100 0x0000 0x24 false 0x002000 0x000000)) =
    some ⟨0x0000, 0x00FF, 0x0000, 0x24, false, 0x002001, []⟩ := by decide

theorem test_VI16_dey_narrow_borrow : seen [] (step (start [0x88] 0x0000 0x0000 0x0000 0x34 true 0x002000 0x000000)) =
    some ⟨0x0000, 0x0000, 0x00FF, 0xB4, true, 0x002001, []⟩ := by decide

theorem test_VI17_dey_wide_wrap : seen [] (step (start [0x88] 0x0000 0x0000 0x0000 0x24 false 0x002000 0x000000)) =
    some ⟨0x0000, 0x0000, 0xFFFF, 0xA4, false, 0x002001, []⟩ := by decide

theorem test_VI18_tax_narrow : seen [] (step (start [0xAA] 0xFF00 0x0055 0x0000 0x34 true 0x002000 0x000000)) =
    some ⟨0xFF00, 0x0000, 0x0000, 0x36, true, 0x002001, []⟩ := by decide

theorem test_VI19_tax_takes_all_of_a : seen [] (step (start [0xAA] 0x8001 0x0000 0x0000 0x24 false 0x002000 0x000000)) =
    some ⟨0x8001, 0x8001, 0x0000, 0xA4, false, 0x002001, []⟩ := by decide

theorem test_VS1_nop : seen [] (step (start [0xEA] 0x1111 0x0022 0x0033 0xFF true 0x002000 0x000000)) =
    some ⟨0x1111, 0x0022, 0x0033, 0xFF, true, 0x002001, []⟩ := by decide

theorem test_VS2_nop_at_bank_end : seen [] (step (start [0xEA] 0x0000 0x0000 0x0000 0x34 true 0x00FFFF 0x000000)) =
    some ⟨0x0000, 0x0000, 0x0000, 0x34, true, 0x000000, []⟩ := by decide

theorem test_VS3_stp : seen [] (step (start [0xDB] 0x0000 0x0000 0x0000 0x34 true 0x002000 0x000000)) =
    some ⟨0x0000, 0x0000, 0x0000, 0x34, true, 0x002001, []⟩ := by decide

theorem test_VS4_wai : seen [] (step (start [0xCB] 0x0000 0x0000 0x0000 0x34 true 0x002000 0x000000)) =
    some ⟨0x0000, 0x0000, 0x0000, 0x34, true, 0x002001, []⟩ := by decide

/-- A placeholder is refused with its opcode and the `PC` (VS5). -/
theorem test_VS5_brk_refused :
    step (start [0x00] 0 0 0 0x34 true 0x002000 0) = .refused (.unimplementedOpcode 0x00 0x002000) := rfl

/-- WDM is one more placeholder (VS6, R109). -/
theorem test_VS6_wdm_refused :
    step (start [0x42] 0 0 0 0x34 true 0x002000 0) = .refused (.unimplementedOpcode 0x42 0x002000) := rfl

/-! ### Reset and bus: VR1, VR3, VR6, VB1, VB2, VB4, VE1 -/

/-- The state VR1 starts from: an LDA in progress in native mode, RESB just driven low for two clocks. -/
def runningNative : State :=
  { State.reset with
    regs := {
      a := 0x1234, x := 0x5678, y := 0x9ABC, pc := 0x7E2001, p := .ofByte 0xCB, epE := false, epB := false
      d := 0x001234, sp := 0x00FFF0, dbr := 0x7E0000 }
    seq := { State.reset.seq with ir := 0xA9, ic := 1 }
    pins := { State.reset.pins with resb := false, ctl := .fetchOperand, addressOut := 0x7E2001, eLine := false }
    hostResb := [false, true] }

/-- The registers and counters VR1 lists after a number of clocks. -/
def afterClocks (k : Nat) (s : State) : Option (Regs × Byte × Nat) :=
  match cycles k s with
  | .next t => some (t.regs, t.seq.ic, t.seq.rlc)
  | _ => none

theorem test_VR1_first_low_clock : afterClocks 1 runningNative = some (runningNative.regs, 1, 1) := by decide

theorem test_VR1_release : afterClocks 3 runningNative =
    some (⟨0x1234, 0x0078, 0x00BC, 0x00FFFC, .ofByte 0xF7, true, false, 0x000000, 0x0001F0, 0x000000⟩, 0, 0) := by
  decide

theorem test_VR3_short_pulse_refused :
    step { runningNative with pins := { runningNative.pins with resb := true },
                              seq := { runningNative.seq with rlc := 1 } } = .refused .shortResetPulse := rfl

/-- STA `$3000` with `P.M = 0`, RESB driven low after its third clock (VR6). -/
def tornStore : State :=
  { start [0x8D, 0x00, 0x30] 0xBEEF 0 0 0x14 false 0x002000 0 with hostResb := [true, true, false, false] }

theorem test_VR6_reset_tears_store :
    (match cycles 5 tornStore with
     | .next t => some (t.seq.rlc, t.busByte 0x003000, t.busByte 0x003001)
     | _ => none) = some (2, 0xEF, 0x00) := by decide

/-- The address and the lines after each clock of an 8-bit STA (VE1). -/
theorem test_VE1_lines_of_sta :
    [1, 2, 3, 4].map (fun k => match cycles k (start [0x8D, 0x00, 0x30] 0xBEEF 0 0 0x34 true 0x002000 0) with
      | .next t => some (t.pins.addressOut, t.pins.ctl, t.regs.pc)
      | _ => none) =
    [some (0x002001, ⟨true, false, true, true, true⟩, 0x002001),
     some (0x002002, ⟨true, false, true, true, true⟩, 0x002002),
     some (0x003000, ⟨false, true, true, true, false⟩, 0x002003),
     some (0x002003, ⟨true, true, true, true, true⟩, 0x002003)] := by decide

/-- The two devices of VB1 and VB2. -/
def ramB : Device := ⟨.ram, 0x002000, 0x0020FF, [(0x2080, 0x11)]⟩
/-- The ROM of VB1 and VB2. -/
def romB : Device := ⟨.rom, 0x002080, 0x00217F, [(0x2080, 0x5A), (0x2100, 0xA7)]⟩

theorem test_VB1_ram_before_rom :
    busRead 0xC8 [ramB, romB] 0x002080 = 0x11 ∧ busRead 0xC8 (busWrite [ramB, romB] 0x002080 0x22) 0x002080 = 0x22 ∧
    busRead 0xC8 [ramB, romB] 0x002100 = 0xA7 ∧ busWrite [ramB, romB] 0x002100 0x33 = [ramB, romB] ∧
    writeDiag [ramB, romB] 0x002100 0x33 = [.unclaimedWrite 0x002100] := by decide

theorem test_VB2_rom_before_ram :
    busRead 0xC8 [romB, ramB] 0x002080 = 0x5A ∧ busRead 0xC8 (busWrite [romB, ramB] 0x002080 0x22) 0x002080 = 0x5A ∧
    busWrite [romB, ramB] 0x002080 0x22 = [romB, { ramB with store := [(0x2080, 0x22)] }] := by decide

theorem test_VB4_unclaimed :
    busRead 0xC8 [ramB] 0x005000 = 0xC8 ∧ readDiag [ramB] 0x005000 = [.unclaimedRead 0x005000] ∧
    busWrite [ramB] 0x005000 0x12 = [ramB] := by decide

/-! ### Witnesses: states and operands that meet the hypotheses of each statement, clause by clause -/

theorem witness_DecodeOfEncode :
    WellFormed false true (.ldaImm (.w16 0xFFFF)) = true ∧ WellFormed true true (.ldaImm (.b8 0xFF)) = true ∧
    WellFormed true true (.jmpAbsLong 0xFFFFFF) = true := by decide

theorem witness_EncodeOfDecode :
    decode true true [0xA9, 0xFF, 0x00] = .ok (.ldaImm (.b8 0xFF), [0x00]) ∧
    decode false true [0xA9, 0xFF, 0x00] = .ok (.ldaImm (.w16 0x00FF), []) := by decide

theorem witness_NoIllegalOpcode :
    3 ≤ ([0x00, 0x00, 0x00] : List Byte).length ∧
    decode true true [0x5C, 0x00, 0x20] = .error (.truncated 0x5C) := by decide

theorem witness_LengthByOpcodeAndFlag :
    WellFormed true false (.ldxImm (.w16 0x1234)) = true ∧ WellFormed false true (.adcImm (.w16 0x1234)) = true ∧
    WellFormed true true .clc = true := by decide

theorem witness_ClockCounts :
    (WellFormed false true (.staAbs 0x3000) = true ∧ opcodeByte (.staAbs 0x3000) ∈ Config.implemented) ∧
    (WellFormed true false (.ldxImm (.w16 0)) = true ∧ opcodeByte (.ldxImm (.w16 0)) ∈ Config.implemented) := by
  decide

/-- A boundary state in native mode with 16-bit widths. -/
def wide (bytes : List Byte) : State := start bytes 0xBEEF 0x1234 0x5678 0x04 false 0x002000 0x000000

/-- A boundary state in emulation mode. -/
def narrow (bytes : List Byte) : State := start bytes 0xBEEF 0x0034 0x0078 0x34 true 0x002000 0x000000

theorem witness_CarryInstructions :
    (narrow []).params.implements 0x18 = true ∧ (narrow []).params.implements 0x38 = true := by decide

theorem witness_XceExchanges : (narrow []).params.implements 0xFB = true := by decide

theorem witness_RepClearsMaskedFlags : (narrow []).params.implements 0xC2 = true := by decide

theorem witness_SepSetsMaskedFlags : (narrow []).params.implements 0xE2 = true := by decide

/-- A boundary state with the carry in, under a platform that answers the corner of ADC with 0. -/
def otherCorner : State :=
  { start [] 0xBEEF 0 0 0x35 true 0x002000 0 with params := { Config.params with adcCarryCorner := false } }

theorem witness_AdcAddsWithCarry :
    ((narrow []).params.implements 0x69 = true ∧ (narrow []).regs.p.m = true ∧ (narrow []).regs.p.c = false) ∧
    ((wide []).params.implements 0x69 = true ∧ (wide []).regs.p.m = false) ∧
    (otherCorner.params.implements 0x69 = true ∧ otherCorner.regs.p.m = true ∧ otherCorner.regs.p.c = true ∧
      otherCorner.params.adcCarryCorner = false) := by decide

/-- In the corner of R190 (b) the carry is the parameter: here 0 where the sum carries. -/
theorem test_adc_other_corner :
    (match exec (.adcImm (.b8 0xFF)) otherCorner with
     | .next t => some (t.regs.a, t.regs.p.c)
     | _ => none) = some (0xBEEF, false) := by decide

theorem witness_AdcTable (r : Regs) :
    (∃ s : State, s.params.implements 0x69 = true ∧ ((0xFF : Byte) = 0xFF → s.params.adcCarryCorner = true) ∧
      s.regs = { r with a := 0x1234, p := { r.p with m := true, c := true } }) ∧
    (∃ s : State, s.params.implements 0x69 = true ∧ ((0xFFFF : Word) = 0xFFFF → s.params.adcCarryCorner = true) ∧
      s.regs = { r with a := 0xFFFF, p := { r.p with m := false, c := true } }) :=
  ⟨⟨{ narrow [] with regs := _ }, rfl, fun _ => rfl, rfl⟩, ⟨{ wide [] with regs := _ }, rfl, fun _ => rfl, rfl⟩⟩

theorem witness_LdaLoadsImmediate :
    (narrow []).params.implements 0xA9 = true ∧ (wide []).params.implements 0xA9 = true ∧
    Imm.fits (narrow []).regs.p.m (.b8 0x80) = true ∧ Imm.fits (wide []).regs.p.m (.w16 0x8000) = true := by decide

theorem witness_LdxLoadsImmediate :
    (narrow []).params.implements 0xA2 = true ∧ (wide []).params.implements 0xA2 = true ∧
    Imm.fits (narrow []).regs.p.x (.b8 0x80) = true ∧ Imm.fits (wide []).regs.p.x (.w16 0x8000) = true := by decide

theorem witness_LdyLoadsImmediate :
    (narrow []).params.implements 0xA0 = true ∧ (wide []).params.implements 0xA0 = true ∧
    Imm.fits (narrow []).regs.p.x (.b8 0x80) = true ∧ Imm.fits (wide []).regs.p.x (.w16 0x8000) = true := by decide

/-- A platform with one RAM page and one ROM page, nothing else claimed. -/
def pages : List Device := [⟨.rom, 0x008000, 0x0080FF, [(0x8000, 0xA9)]⟩, ⟨.ram, 0x003000, 0x0030FF, []⟩]

/-- Boundary states over these pages, with 16-bit and with 8-bit widths. -/
def pagedWide : State := { wide [] with devices := pages }
/-- The 8-bit one. -/
def pagedNarrow : State := { narrow [] with devices := pages }

/-- In the order of the clauses: an 8-bit store that no device takes; a 16-bit store whose low byte, whose high byte, no
device takes. -/
theorem witness_StaStoresAccumulator :
    (pagedNarrow.params.implements 0x8D = true ∧ pagedNarrow.regs.p.m = true ∧
      claimedWrite pagedNarrow.devices (mkLong (bankOf pagedNarrow.regs.dbr) 0x8000) pagedNarrow.regs.al = none) ∧
    (pagedWide.params.implements 0x8D = true ∧ pagedWide.regs.p.m = false ∧
      claimedWrite pagedWide.devices (mkLong (bankOf pagedWide.regs.dbr) 0x2FFF) pagedWide.regs.al = none ∧
      claimedWrite (busWrite pagedWide.devices (mkLong (bankOf pagedWide.regs.dbr) 0x30FF) pagedWide.regs.al)
        (mkLong (bankOf pagedWide.regs.dbr) 0x30FF + 1) pagedWide.regs.ah = none) := by decide

theorem ram_serves_3000 : RamServes pages 0x003000 :=
  ⟨[⟨.rom, 0x008000, 0x0080FF, [(0x8000, 0xA9)]⟩], ⟨.ram, 0x003000, 0x0030FF, []⟩, [], rfl, rfl, by decide,
    List.forall_mem_singleton.mpr (by decide)⟩

theorem witness_StaMemoryFrame :
    DevicesHold pagedWide ∧ (∃ t, exec (.staAbs 0x3000) pagedWide = .next t) ∧
    (0x003002 : Long) ∉ (storedBytes pagedWide.regs 0x3000).map (·.1) ∧
    ((0x003000, 0xEF) : Long × Byte) ∈ storedBytes pagedWide.regs 0x3000 ∧ RamServes pagedWide.devices 0x003000 :=
  ⟨by unfold DevicesHold; decide, ⟨_, rfl⟩, by decide, by decide, ram_serves_3000⟩

theorem witness_JmpAbsoluteKeepsBank : (narrow []).params.implements 0x4C = true := by decide

theorem witness_JmpLongSetsBank : (narrow []).params.implements 0x5C = true := by decide

theorem witness_IndexIncrements :
    (narrow []).params.implements 0xE8 = true ∧ (wide []).params.implements 0xC8 = true := by decide

theorem witness_IndexDecrements :
    (narrow []).params.implements 0xCA = true ∧ (wide []).params.implements 0x88 = true := by decide

theorem witness_TaxTransfersAtIndexWidth : (wide []).params.implements 0xAA = true := by decide

theorem witness_NopAdvances : (narrow []).params.implements 0xEA = true := by decide

theorem witness_StpWaiReachHold :
    (narrow [0xDB]).seq.rlc = 0 ∧ (narrow [0xDB]).params.implements 0xDB = true ∧
    (narrow [0xDB]).params.implements 0xCB = true := by decide

/-- The core stopped, or waiting, one clock after another. -/
def holding (ir : Byte) : State :=
  { narrow [ir] with seq := { (narrow [ir]).seq with ir := ir, ic := 2 }, hostResb := [true, true, false] }

theorem witness_HoldIsPermanent :
    Stopped (holding 0xDB) ∧ Waiting (holding 0xCB) ∧ (holding 0xDB).params.implements 0xDB = true ∧
    (holding 0xCB).params.implements 0xCB = true ∧ (holding 0xDB).pins.resb = true ∧
    (holding 0xCB).pins.resb = true ∧ (∀ b ∈ (holding 0xDB).hostResb.take 2, b = true) ∧
    ∀ b ∈ (holding 0xCB).hostResb.take 2, b = true :=
  ⟨by unfold Stopped; decide, by unfold Waiting; decide, rfl, rfl, rfl, rfl, by decide, by decide⟩

/-- A boundary state at a CLC, on a platform without a handler for it. -/
def withoutClc : State := { narrow [0x18] with params := { Config.params with implemented := [0x38, 0x00] } }

theorem witness_PlaceholdersRefused :
    withoutClc.params.implements (opcodeByte .clc) = false ∧ opcodeByte (.brk 0) ∉ Config.implemented ∧
    opcodeByte (.sbcAbsLongX 0) ∉ Config.implemented ∧ withoutClc.params.implements 0x00 = true ∧
    withoutClc.pins.resb = true ∧ withoutClc.seq.rlc = 0 ∧ withoutClc.seq.ic = 0 ∧
    withoutClc.params.implements withoutClc.seq.dataIn = false ∧
    (narrow [0x00]).pins.resb = true ∧ (narrow [0x00]).seq.rlc = 0 ∧ (narrow [0x00]).seq.ic = 0 ∧
    (narrow [0x00]).seq.dataIn ∉ Config.implemented := by
  decide

/-- CLC is one more placeholder where `IMPLEMENTED` leaves it out. -/
theorem test_clc_without_handler : step withoutClc = .refused (.unimplementedOpcode 0x18 0x002000) := rfl

theorem witness_StagnationAsBuilt : OpcodePresented (narrow [0x00]) ∧ (narrow [0x00]).pins.phi2 = false :=
  ⟨⟨rfl, rfl, rfl⟩, rfl⟩

theorem witness_AdmittedInstructionsEnd :
    opcodeByte .stp ∈ Config.implemented ∧ (narrow []).params.implements (opcodeByte .stp) = true ∧
    WellFormed (narrow []).regs.p.m (narrow []).regs.p.x .stp = true ∧
    opcodeByte (.ldaImm (.b8 1)) ∈ Config.implemented ∧ (wide []).params.implements 0xA9 = true ∧
    WellFormed (wide []).regs.p.m (wide []).regs.p.x (.ldaImm (.b8 1)) = false := by decide

/-- An instruction answers a next state that satisfies a test. -/
def nextHas (i : Instr) (s : State) (test : State → Bool) : Bool :=
  match exec i s with
  | .next t => test t
  | _ => false

theorem witness_OnlyWritersOfRegisters :
    nextHas (.ldaImm (.b8 1)) (narrow []) (fun t => t.regs.a != (narrow []).regs.a) = true ∧
    nextHas .inx (narrow []) (fun t => t.regs.x != (narrow []).regs.x) = true ∧
    nextHas (.sep 0x10) (wide []) (fun t => t.regs.y != (wide []).regs.y) = true ∧
    nextHas .xce (narrow []) (fun t => t.regs.epE != (narrow []).regs.epE) = true ∧
    nextHas (.staAbs 0x3000) (narrow []) (fun t => t.devices != (narrow []).devices) = true := by decide

theorem witness_OnlyWritersOfFlags :
    nextHas (.ldaImm (.b8 0x80)) (narrow []) (fun t => t.regs.p.n) = true ∧
    nextHas (.sep 0x40) (narrow []) (fun t => t.regs.p.v) = true ∧
    nextHas (.sep 0x20) (wide []) (fun t => t.regs.p.m) = true ∧
    nextHas (.sep 0x10) (wide []) (fun t => t.regs.p.x) = true ∧
    nextHas (.sep 0x08) (narrow []) (fun t => t.regs.p.d) = true ∧
    nextHas (.rep 0x04) (narrow []) (fun t => !t.regs.p.i) = true ∧
    nextHas (.ldyImm (.b8 0)) (narrow []) (fun t => t.regs.p.z) = true ∧
    nextHas .sec (narrow []) (fun t => t.regs.p.c) = true ∧ (narrow []).regs.p = .ofByte 0x34 ∧
    (wide []).regs.p = .ofByte 0x04 := by decide

theorem witness_SequentialFlow :
    ∃ t, exec (.staAbs 0x3000) (narrow []) = .next t ∧ opcodeByte (.staAbs 0x3000) ≠ 0x4C ∧
      opcodeByte (.staAbs 0x3000) ≠ 0x5C := ⟨_, rfl, by decide, by decide⟩

/-- The last clock of a JML to bank 1, and the release clock of a reset from bank 1. -/
def lastOfJml : State :=
  { narrow [0x01] with
    seq := { (narrow [0x01]).seq with ir := 0x5C, ic := 3, tl := 0x00, th := 0x20, dataIn := 0x01 } }

theorem witness_OnlyLongJumpAndResetChangeBank :
    (∃ t, cycle lastOfJml = .next t ∧ bankOf t.regs.pc ≠ bankOf lastOfJml.regs.pc) ∧
    (∃ t, cycle { lastOfJml with seq := { lastOfJml.seq with rlc := 2 }, regs := { lastOfJml.regs with pc := 0x012000 } } =
      .next t ∧ bankOf t.regs.pc ≠ 0x01) := ⟨⟨_, rfl, by decide⟩, ⟨_, rfl, by decide⟩⟩

/-- A 16-bit STA whose five clocks pass before the scheduled reset. -/
def storeBeforeReset : State := { wide [0x8D, 0x00, 0x30] with hostResb := [true, true, true, true, false] }

theorem witness_StepRunsDecodedInstruction :
    atBoundary storeBeforeReset = true ∧ OpcodePresented storeBeforeReset ∧
    decode storeBeforeReset.regs.p.m storeBeforeReset.regs.p.x (codeBytes storeBeforeReset 4) =
      .ok (.staAbs 0x3000, [0x00]) ∧
    quiet (instrClocks storeBeforeReset.regs.p.m (.staAbs 0x3000)) storeBeforeReset = true :=
  ⟨by decide, ⟨rfl, rfl, rfl⟩, by decide, by decide⟩

theorem witness_StepIsOneCycleElsewhere :
    atBoundary (holding 0xDB) = false ∧ atBoundary tornStore = true ∧
    quiet (instrClocks tornStore.regs.p.m (fetchInstr tornStore)) tornStore = false := by decide

theorem witness_FetchWordIsRun :
    DevicesHold State.reset ∧ State.reset.regs.p.m = true ∧ State.reset.regs.p.x = true ∧
    decodeTableWord 24 0x00204C = some (.jmpAbs 0x0020) ∧ decodeTableWord 8 0x18 = some .clc :=
  ⟨by unfold DevicesHold; decide, rfl, rfl, by decide, by decide⟩

theorem witness_StepRefinesCycles :
    atBoundary (wide [0x8D, 0x00, 0x30]) = true ∧
    quiet (instrClocks (wide [0x8D, 0x00, 0x30]).regs.p.m (fetchInstr (wide [0x8D, 0x00, 0x30])))
      (wide [0x8D, 0x00, 0x30]) = true := by decide

theorem witness_ResetMeetsInvariant : pages.all Device.wf = true := by decide

/-- A state of the invariant at a boundary, in emulation mode. -/
theorem inv_narrow (op : Byte) (bytes : List Byte) (hw : (narrow (op :: bytes)).devices.all Device.wf = true) :
    Inv (narrow (op :: bytes)) :=
  ⟨⟨fun _ => ⟨(by decide : hiByte 0x0034 = 0), (by decide : hiByte 0x0078 = 0)⟩, fun _ => ⟨rfl, rfl⟩⟩,
    ⟨rfl, rfl, (by decide : hiByte (offOf (mkLong 0x00 (mkWord 0x01 0x00))) = 0x01)⟩, ⟨rfl, rfl, rfl, rfl⟩,
    ⟨Nat.zero_le _, .inl rfl⟩, fun _ h => absurd h (by decide : ¬ (0 : Byte) = 2), fun _ _ => ⟨rfl, rfl, rfl⟩, hw⟩

theorem witness_StepKeepsInvariant : Inv (narrow [0xE8]) ∧ ∃ t, step (narrow [0xE8]) = .next t :=
  ⟨inv_narrow _ _ (by decide), ⟨_, rfl⟩⟩

theorem witness_ParametersNeverChange :
    (∃ t, step (narrow [0xE8]) = .next t) ∧ ∃ t, cycle (narrow [0xE8]) = .next t := ⟨⟨_, rfl⟩, ⟨_, rfl⟩⟩

theorem witness_StepNeverFaults : Inv (narrow [0xE8]) := inv_narrow _ _ (by decide)

/-- RESB high again after a single low clock, in a state of the invariant. -/
def shortPulse : State := { narrow [0xE8] with seq := { (narrow [0xE8]).seq with rlc := 1 } }

theorem witness_RefusalsAreTwo :
    (Inv (narrow [0x00]) ∧ step (narrow [0x00]) = .refused (.unimplementedOpcode 0x00 0x002000)) ∧
    (Inv shortPulse ∧ step shortPulse = .refused .shortResetPulse) :=
  ⟨⟨inv_narrow _ _ (by decide), rfl⟩,
   ⟨⟨fun _ => ⟨by decide, by decide⟩, fun _ => ⟨rfl, rfl⟩⟩, ⟨rfl, rfl, by decide⟩, ⟨rfl, rfl, rfl, rfl⟩,
     ⟨by decide, .inl rfl⟩, fun h => absurd h (by decide), fun h => absurd h (by decide),
     (inv_narrow 0xE8 [] (by decide)).2.2.2.2.2.2⟩, rfl⟩

theorem witness_FirstClaimantServesRead :
    ((0x002080 : Long) ≤ 0x002100 ∧ (0x002100 : Long) ≤ 0x00217F ∧ ∀ e ∈ [ramB], e.validRead 0x002100 = false) ∧
    ∀ e ∈ [ramB, romB], e.validRead 0x002180 = false := by decide

theorem witness_FirstClaimantTakesWrite :
    (ramB.kind = .ram ∧ ramB.start ≤ 0x0020FF ∧ (0x0020FF : Long) ≤ ramB.stop ∧
      ∀ e ∈ [romB], e.kind = .rom ∨ ¬ (e.start ≤ 0x0020FF ∧ (0x0020FF : Long) ≤ e.stop)) ∧
    ∀ e ∈ [romB, ramB], e.kind = .rom ∨ ¬ (e.start ≤ 0x002100 ∧ (0x002100 : Long) ≤ e.stop) := by decide

theorem witness_RamReadsBack : pages.all Device.wf = true ∧ RamServes pages 0x003000 := ⟨by decide, ram_serves_3000⟩

theorem witness_RomNeverChanges :
    pages.all Device.wf = true ∧ RomServes pages 0x0080FF ∧
    ([romB, ramB].all Device.wf = true ∧ RomServes [romB, ramB] 0x002080) :=
  ⟨by decide, ⟨[], _, _, rfl, rfl, by decide, nofun⟩, by decide, ⟨[], _, _, rfl, rfl, by decide, nofun⟩⟩

theorem witness_BusTickByDirection :
    (narrow []).pins.ctl.rwb = true ∧
    ({ narrow [] with pins := { (narrow []).pins with ctl := .dataWrite } } : State).pins.ctl.rwb = false := by decide

theorem witness_LowResetCountsFirst : runningNative.pins.resb = false ∧ runningNative.seq.rlc = 0 := by decide

theorem witness_ForcedResetState :
    (let s : State := { runningNative with seq := { runningNative.seq with rlc := 1 } }
     s.pins.resb = false ∧ 1 ≤ s.seq.rlc) := by decide

theorem witness_ReleaseLoadsResetVector :
    (let s : State := { narrow [] with seq := { (narrow []).seq with rlc := 2 } }
     s.pins.resb = true ∧ 2 ≤ s.seq.rlc ∧ s.regs.epE = true) ∧
    (let s : State := { wide [] with seq := { (wide []).seq with rlc := 2 } }
     s.pins.resb = true ∧ 2 ≤ s.seq.rlc ∧ s.regs.epE = false) := by decide

theorem witness_ShortResetPulseRefused : shortPulse.pins.resb = true ∧ shortPulse.seq.rlc = 1 := by decide

theorem witness_ResetSequence :
    2 ≤ 2 ∧ runningNative.pins.resb = false ∧ runningNative.hostResb = List.replicate (2 - 1) false ++ true :: [] ∧
    runningNative.pins.ctl.rwb = true ∧
    1 ≤ ({ runningNative with seq := { runningNative.seq with rlc := 1 } } : State).seq.rlc := by decide

theorem witness_ResetTearsWideStore :
    DevicesHold tornStore ∧ tornStore.params.implements 0x8D = true ∧ atBoundary tornStore = true ∧ tornStore.regs.p.m = false ∧
    fetchInstr tornStore = .staAbs 0x3000 ∧ tornStore.hostResb = true :: true :: false :: [false] :=
  ⟨by unfold DevicesHold; decide, rfl, by decide, by decide, by decide, by decide⟩

/-- A boundary state at an address no device claims. -/
def lost : State := toBoundary { narrow [] with devices := pages }

/-- A boundary state at the last address before a RAM, where no device claims the `PC`. -/
def lostBeforeRam : State :=
  toBoundary { narrow [] with devices := pages, regs := { (narrow []).regs with pc := 0x002FFF } }

theorem witness_UnclaimedMemoryRunsIny :
    (lost.params.unclaimedRead = 0xC8 ∧ lost.params.implements 0xC8 = true ∧ atBoundary lost = true ∧
      OpcodePresented lost ∧ quiet 2 lost = true ∧ claimedRead lost.devices lost.regs.pc = none) ∧
    (lostBeforeRam.params.unclaimedRead = 0xC8 ∧ lostBeforeRam.params.implements 0xC8 = true ∧
      atBoundary lostBeforeRam = true ∧ OpcodePresented lostBeforeRam ∧ quiet 2 lostBeforeRam = true ∧
      claimedRead lostBeforeRam.devices lostBeforeRam.regs.pc = none ∧
      claimedRead lostBeforeRam.devices (incOffset lostBeforeRam.regs.pc) = some 0x00) :=
  ⟨⟨rfl, rfl, by decide, ⟨rfl, rfl, rfl⟩, by decide, by decide⟩,
   ⟨rfl, rfl, by decide, ⟨rfl, rfl, rfl⟩, by decide, by decide, by decide⟩⟩

end Sys2Proof.Tests
end

/-!
SUPPORT. The two levels agree (spec/00_scope.md R11): the engine, clock by clock, takes exactly the rows the instruction
level runs at once. A row is blind to the host's side of the state, so the host's moves between the clocks can be made
after the last one.
-/

namespace Sys2Proof.Machine

/-! ### The host's side of the state -/

/-- The state with another level of RESB and another schedule for it. -/
def onHost (r : Bool) (l : List Bool) (s : State) : State :=
  { s with pins := { s.pins with resb := r }, hostResb := l }

@[simp] theorem onHost_seq (r : Bool) (l : List Bool) (s : State) : (onHost r l s).seq = s.seq := rfl
@[simp] theorem onHost_params (r : Bool) (l : List Bool) (s : State) : (onHost r l s).params = s.params := rfl

theorem onHost_self (s : State) : onHost s.pins.resb s.hostResb s = s := rfl

theorem hostMove_onHost_nil (r : Bool) (s : State) : hostMove (onHost r [] s) = onHost r [] s := rfl

theorem hostMove_onHost_cons (r b : Bool) (bs : List Bool) (s : State) :
    hostMove (onHost r (b :: bs) s) = onHost b bs s := rfl

/-- RESB high now and through a quiet schedule is high at the start of each of `k` clocks. -/
theorem resb_high_of_quiet {s : State} {k : Nat} (hr : s.pins.resb = true) (hq : quiet k s = true) :
    ((s.pins.resb :: s.hostResb).take k).all id = true := by
  cases k with
  | zero => rfl
  | succ k => simpa [hr, quiet] using hq

/-! ### Cycles one at a time -/

theorem cycles_succ_of_next {s t : State} (k : Nat) (h : cycle s = .next t) : cycles (k + 1) s = cycles k t := by
  rw [cycles, h]

theorem cycles_succ_of_refused {s : State} {r : Refusal} (k : Nat) (h : cycle s = .refused r) :
    cycles (k + 1) s = .refused r := by
  rw [cycles, h]

/-- A null handler is refused by the clock that latches its opcode (R131, R254). -/
theorem cycle_of_null_handler {s : State} (hr : s.pins.resb = true) (h0 : s.seq.rlc = 0) (hi : s.seq.ic = 0)
    (hg : handlerOf s.params s.seq.dataIn = none) :
    cycle s = .refused (.unimplementedOpcode s.seq.dataIn s.regs.pc) := by
  simp [cycle, clock, dispatchClock, hr, h0, hi, hg, nullHandler, placeholderTreatment]

/-! ### The engine runs rows -/

/-- The next clock from `s` runs `row`, whatever the host does with RESB, as long as the clock finds it high. -/
structure ClockRuns (row : State → State) (s : State) : Prop where
  rlc : s.seq.rlc = 0
  blind : HostBlind row
  dispatched : ∃ g, handlerOf s.params (latched s).seq.ir = some g ∧
    ∀ r l, g (latched (setPhi2 true (onHost r l s))) = some (row (setPhi2 true (onHost r l s)))

/-- The next clocks from `s` run `rows` in order. -/
def EngineRuns : List (State → State) → State → Prop
  | [], _ => True
  | row :: rows, s => ClockRuns row s ∧ EngineRuns rows (busTick (row s))

/-- The latch of the opcode does not look at the host's side. -/
theorem latched_host (r : Bool) (l : List Bool) (s : State) :
    latched (setPhi2 true (onHost r l s)) = setPhi2 true (onHost r l (latched s)) :=
  (apply_ite (fun t => setPhi2 true (onHost r l t)) (s.seq.ic = 0) (latchIr s.seq.dataIn s) s).symm

/-- The cycle of a clock that runs a row: the row with its bus tick, and the host's move on its own side. -/
theorem ClockRuns.cycle_eq {row : State → State} {s : State} (h : ClockRuns row s) (l : List Bool) :
    cycle (onHost true l s) = .next (hostMove (onHost true l (busTick (row s)))) := by
  obtain ⟨g, hg, hrow⟩ := h.dispatched
  have hg' : handlerOf (latched (setPhi2 true (onHost true l s))).params
      (latched (setPhi2 true (onHost true l s))).seq.ir = some g := by
    have hp : (latched s).params = s.params := by unfold latched; split <;> rfl
    rw [latched_host]
    simpa only [setPhi2_params, setPhi2_seq, onHost_params, onHost_seq, hp] using hg
  have hblind : busTick (row (setPhi2 true (onHost true l s))) = onHost true l (busTick (row s)) :=
    h.blind s true l true
  rw [← hblind]
  exact cycle_row rfl h.rlc hg' (hrow true l)

/-- Rows leave the host's side alone. -/
theorem EngineRuns.keeps_host {rows : List (State → State)} {s : State} (h : EngineRuns rows s) {r : Bool} {l : List Bool}
    (hs : onHost r l s = s) : onHost r l (runClocks rows s) = runClocks rows s := by
  induction rows generalizing s with
  | nil => exact hs
  | cons row rows ih =>
    obtain ⟨hclock, hrest⟩ := h
    have hblind : busTick (row (onHost r l s)) = onHost r l (busTick (row s)) := hclock.blind s r l s.pins.phi2
    rw [hs] at hblind
    exact ih hrest hblind.symm

/-- Clocks that find RESB high run the rows the engine has before it; the host's moves can wait to the end. -/
theorem cycles_of_engineRuns {rows : List (State → State)} {s : State} (h : EngineRuns rows s) {r : Bool} {l : List Bool}
    (hhigh : ((r :: l).take rows.length).all id = true) :
    cycles rows.length (onHost r l s) = .next (hostMoves rows.length (onHost r l (runClocks rows s))) := by
  induction rows generalizing s r l with
  | nil => rfl
  | cons row rows ih =>
    obtain ⟨hclock, hrest⟩ := h
    obtain ⟨rfl, hl⟩ : r = true ∧ (l.take rows.length).all id = true := by simpa using hhigh
    rw [List.length_cons, cycles_succ_of_next _ (hclock.cycle_eq l), hostMoves_succ, runClocks_cons]
    cases l with
    | nil =>
      have hstay : ((true :: []).take rows.length).all id = true := by cases rows.length <;> simp
      simp only [hostMove_onHost_nil]
      exact ih hrest hstay
    | cons b bs =>
      simp only [hostMove_onHost_cons]
      exact ih hrest hl

/-! ### The clocks of a pattern -/

/-- The next clock latches `op`, whose handler is `g` (R131 case 3). -/
structure AtOpcode (op : Byte) (g : Handler) (s : State) : Prop where
  rlc : s.seq.rlc = 0
  ic : s.seq.ic = 0
  latches : s.seq.dataIn = op
  handler : handlerOf s.params op = some g

/-- The clock that latches the opcode runs row `ic = 0` of its handler. -/
theorem AtOpcode.clockRuns {op : Byte} {g : Handler} {s : State} (h : AtOpcode op g s) {row : State → State}
    (hrow : ∀ t, t.seq.ic = 0 → g t = some (row t)) (hb : HostBlind fun t => row (latchIr op t)) :
    ClockRuns (fun t => row (latchIr op t)) s where
  rlc := h.rlc
  blind := hb
  dispatched := by
    have hl : latched s = latchIr op s := by rw [latched, if_pos h.ic, h.latches]
    refine ⟨g, by rw [hl]; exact h.handler, fun r l => ?_⟩
    rw [latched_host, hl]
    exact hrow _ h.ic

/-- A clock inside an instruction runs the row of the handler that `ic` names. -/
theorem ClockRuns.inside {g : Handler} {row : State → State} {s : State} (hrlc : s.seq.rlc = 0) (hic : s.seq.ic ≠ 0)
    (hg : handlerOf s.params s.seq.ir = some g)
    (hrow : ∀ t, t.seq = s.seq → t.regs = s.regs → g t = some (row t)) (hb : HostBlind row) : ClockRuns row s where
  rlc := hrlc
  blind := hb
  dispatched := by
    have hl : latched s = s := if_neg hic
    refine ⟨g, by rw [hl]; exact hg, fun r l => ?_⟩
    rw [latched_host, hl]
    exact hrow _ rfl rfl

section
variable {op : Byte} {s : State}

/-- IMPLIED2 (R140). -/
theorem engineRuns_implied2 {f : State → State} (h : AtOpcode op (implied2Rows f) s) (hb : HostBlind (impliedLast f)) :
    EngineRuns [fun t => openInternal (latchIr op t), impliedLast f] s := by
  refine ⟨h.clockRuns (fun t ht => if_pos ht) (openInternal_blind op), ?_⟩
  rw [openInternal_row]
  exact ⟨.inside h.rlc (by decide : (1 : Byte) ≠ 0) h.handler
    (fun t ht _ => by simp [implied2Rows, ht, readState]) hb, trivial⟩

/-- IMMP3 (R141). -/
theorem engineRuns_immp3 {f : Byte → State → State} {b : Byte} (h : AtOpcode op (immp3Rows f) s)
    (h1 : b = s.busByte (codeAddr s.regs.pc 1)) (hb : HostBlind (maskLast f)) :
    EngineRuns [fun t => openOperand (latchIr op t), maskLatch b, maskLast f] s := by
  refine ⟨h.clockRuns (fun t ht => if_pos ht) (openOperand_blind op), ?_⟩
  rw [openOperand_row]
  refine ⟨.inside h.rlc (by decide : (1 : Byte) ≠ 0) h.handler
    (fun t ht _ => by simp [immp3Rows, ht, readState, h1]) (maskLatch_blind b), ?_⟩
  rw [maskLatch_row]
  exact ⟨.inside h.rlc (by decide : (2 : Byte) ≠ 0) h.handler
    (fun t ht _ => by simp [immp3Rows, ht, readState]) hb, trivial⟩

/-- IMM with `F = 1` (R143): the flag is sampled after the operand byte. -/
theorem engineRuns_imm8 {flag : Status → Bool} {f8 : Byte → State → State} {f16 : Word → State → State} {b : Byte}
    (h : AtOpcode op (immRows flag f8 f16) s) (hflag : flag s.regs.p = true)
    (h1 : b = s.busByte (codeAddr s.regs.pc 1)) (hb : HostBlind (immLast8 f8 b)) :
    EngineRuns [fun t => openOperand (latchIr op t), immLast8 f8 b] s := by
  refine ⟨h.clockRuns (fun t ht => if_pos ht) (openOperand_blind op), ?_⟩
  rw [openOperand_row]
  exact ⟨.inside h.rlc (by decide : (1 : Byte) ≠ 0) h.handler
    (fun t ht hr => by simp [immRows, ht, hr, readState, Regs.advance, hflag, h1]) hb, trivial⟩

/-- IMM with `F = 0` (R143). -/
theorem engineRuns_imm16 {flag : Status → Bool} {f8 : Byte → State → State} {f16 : Word → State → State} {b1 b2 : Byte}
    (h : AtOpcode op (immRows flag f8 f16) s) (hflag : flag s.regs.p = false)
    (h1 : b1 = s.busByte (codeAddr s.regs.pc 1)) (h2 : b2 = s.busByte (codeAddr s.regs.pc 2))
    (hb : HostBlind (immLast16 f16 b2)) :
    EngineRuns [fun t => openOperand (latchIr op t), operandLow b1, immLast16 f16 b2] s := by
  refine ⟨h.clockRuns (fun t ht => if_pos ht) (openOperand_blind op), ?_⟩
  rw [openOperand_row]
  refine ⟨.inside h.rlc (by decide : (1 : Byte) ≠ 0) h.handler
    (fun t ht hr => by simp [immRows, ht, hr, readState, Regs.advance, hflag, h1]) (operandLow_blind b1), ?_⟩
  rw [operandLow_row]
  exact ⟨.inside h.rlc (by decide : (2 : Byte) ≠ 0) h.handler
    (fun t ht _ => by simp [immRows, ht, readState, h2, Regs.advance, codeAddr_succ]) hb, trivial⟩

/-- JMPABS (R144). -/
theorem engineRuns_jmpAbs {b1 b2 : Byte} (h : AtOpcode op jmpAbsRows s)
    (h1 : b1 = s.busByte (codeAddr s.regs.pc 1)) (h2 : b2 = s.busByte (codeAddr s.regs.pc 2)) :
    EngineRuns [fun t => openOperand (latchIr op t), operandLow b1, jumpAbsLast b2] s := by
  refine ⟨h.clockRuns (fun t ht => if_pos ht) (openOperand_blind op), ?_⟩
  rw [openOperand_row]
  refine ⟨.inside h.rlc (by decide : (1 : Byte) ≠ 0) h.handler
    (fun t ht _ => by simp [jmpAbsRows, ht, readState, h1]) (operandLow_blind b1), ?_⟩
  rw [operandLow_row]
  exact ⟨.inside h.rlc (by decide : (2 : Byte) ≠ 0) h.handler
    (fun t ht _ => by simp [jmpAbsRows, ht, readState, h2, Regs.advance, codeAddr_succ]) (jumpAbsLast_blind b2), trivial⟩

/-- JMPLONG (R145). -/
theorem engineRuns_jmpLong {b1 b2 b3 : Byte} (h : AtOpcode op jmpLongRows s)
    (h1 : b1 = s.busByte (codeAddr s.regs.pc 1)) (h2 : b2 = s.busByte (codeAddr s.regs.pc 2))
    (h3 : b3 = s.busByte (codeAddr s.regs.pc 3)) :
    EngineRuns [fun t => openOperand (latchIr op t), operandLow b1, operandHigh b2, jumpLongLast b3] s := by
  refine ⟨h.clockRuns (fun t ht => if_pos ht) (openOperand_blind op), ?_⟩
  rw [openOperand_row]
  refine ⟨.inside h.rlc (by decide : (1 : Byte) ≠ 0) h.handler
    (fun t ht _ => by simp [jmpLongRows, ht, readState, h1]) (operandLow_blind b1), ?_⟩
  rw [operandLow_row]
  refine ⟨.inside h.rlc (by decide : (2 : Byte) ≠ 0) h.handler
    (fun t ht _ => by simp [jmpLongRows, ht, readState, h2, Regs.advance, codeAddr_succ]) (operandHigh_blind b2), ?_⟩
  rw [operandHigh_row]
  exact ⟨.inside h.rlc (by decide : (3 : Byte) ≠ 0) h.handler
    (fun t ht _ => by simp [jmpLongRows, ht, readState, h3, Regs.advance, codeAddr_succ]) (jumpLongLast_blind b3), trivial⟩

/-- The rows of ABSWRITE from `ic = 3` on (R146). -/
def storeEnding (m : Bool) : List (State → State) := if m then [closeInstr] else [storeHigh, closeInstr]

/-- The end of ABSWRITE after its first write: the flag decides whether the high byte goes out too (R146). -/
theorem engineRuns_storeEnding {tl th out : Byte} {m : Bool} {r : Regs} {a : Long} {ds : List Device} {es : List Diag}
    (hr : s.seq.rlc = 0) (hg : handlerOf s.params op = some absWriteRows) (hm : r.p.m = m) :
    EngineRuns (storeEnding m) (wroteState s op 3 tl th out r a ds es) := by
  cases m
  · refine ⟨.inside hr (by decide : (3 : Byte) ≠ 0) hg
      (fun t ht hregs => by simp [absWriteRows, ht, hregs, wroteState, hm]) storeHigh_blind, ?_⟩
    rw [storeHigh_row]
    exact ⟨.inside hr (by decide : (4 : Byte) ≠ 0) hg
      (fun t ht _ => by simp [absWriteRows, ht, wroteState]) closeInstr_blind, trivial⟩
  · exact ⟨.inside hr (by decide : (3 : Byte) ≠ 0) hg
      (fun t ht hregs => by simp [absWriteRows, ht, hregs, wroteState, hm]) closeInstr_blind, trivial⟩

/-- ABSWRITE (R146): both operand bytes are read before the first write. -/
theorem engineRuns_absWrite {b1 b2 : Byte} (h : AtOpcode op absWriteRows s)
    (h1 : b1 = s.busByte (codeAddr s.regs.pc 1)) (h2 : b2 = s.busByte (codeAddr s.regs.pc 2)) :
    EngineRuns ((fun t => openOperand (latchIr op t)) :: operandLow b1 :: storeLow b2 :: storeEnding s.regs.p.m) s := by
  refine ⟨h.clockRuns (fun t ht => if_pos ht) (openOperand_blind op), ?_⟩
  rw [openOperand_row]
  refine ⟨.inside h.rlc (by decide : (1 : Byte) ≠ 0) h.handler
    (fun t ht _ => by simp [absWriteRows, ht, readState, h1]) (operandLow_blind b1), ?_⟩
  rw [operandLow_row]
  refine ⟨.inside h.rlc (by decide : (2 : Byte) ≠ 0) h.handler
    (fun t ht _ => by simp [absWriteRows, ht, readState, h2, Regs.advance, codeAddr_succ]) (storeLow_blind b2), ?_⟩
  rw [storeLow_row]
  exact engineRuns_storeEnding h.rlc h.handler rfl

theorem absWrite_eq_runClocks (w : Word) :
    absWrite op w s = runClocks ((fun t => openOperand (latchIr op t)) :: operandLow (loByte w) ::
      storeLow (hiByte w) :: storeEnding s.regs.p.m) s := by
  unfold absWrite storeEnding
  split <;> rfl

/-- HALT3 (R147). -/
theorem engineRuns_halt3 (h : AtOpcode op halt3Rows s) :
    EngineRuns [fun t => openInternal (latchIr op t), haltHold, haltHold] s := by
  refine ⟨h.clockRuns (fun t ht => if_pos ht) (openInternal_blind op), ?_⟩
  rw [openInternal_row]
  refine ⟨.inside h.rlc (by decide : (1 : Byte) ≠ 0) h.handler
    (fun t ht _ => by simp [halt3Rows, ht, readState]) haltHold_blind, ?_⟩
  rw [haltHold_row]
  exact ⟨.inside h.rlc (by decide : (2 : Byte) ≠ 0) h.handler
    (fun t ht _ => by simp [halt3Rows, ht, readState]) haltHold_blind, trivial⟩

end

/-! ### Both levels, instruction by instruction -/

/-- The two levels agree on `i` in `s`: either the instruction runs the rows that the engine takes, one a clock, or the
opcode on `data_in` has no handler and the instruction is refused as the engine refuses it. -/
def LevelsAgree (i : Instr) (s : State) : Prop :=
  (∃ rows, rows.length = instrClocks s.regs.p.m i ∧ exec i s = .next (runClocks rows s) ∧ EngineRuns rows s) ∨
  (handlerOf s.params s.seq.dataIn = none ∧ exec i s = .refused (.unimplementedOpcode s.seq.dataIn s.regs.pc))

theorem atBoundary_iff {s : State} :
    atBoundary s = true ↔ s.pins.resb = true ∧ s.seq.rlc = 0 ∧ s.seq.ic = 0 := by
  simp [atBoundary, and_assoc]

/-- The opcodes whose handlers the spec does not define (R106, R108). -/
theorem rowsOf_eq_none (corner : Bool) {op : Byte} (h : op ∉ Config.implemented) : rowsOf corner op = none := by
  simp only [Config.implemented, List.mem_cons, List.not_mem_nil, or_false, not_or] at h
  simp only [rowsOf, h, if_false]

/-- The 236 placeholders are refused with their opcode and the `PC` (R108, R254). -/
theorem exec_of_not_listed {i : Instr} (s : State) (h : opcodeByte i ∉ Config.implemented) :
    exec i s = .refused (.unimplementedOpcode (opcodeByte i) s.regs.pc) := by
  cases i
  case clc | sec | xce | rep | sep | adcImm | ldaImm | ldxImm | ldyImm | staAbs | jmpAbs | jmpAbsLong | inx | iny | dex | dey
      | tax | nop | stp | wai => exact absurd (by simp [opcodeByte, Config.implemented]) h
  all_goals rfl

/-- The instruction at a boundary has the opcode on `data_in` (R131). -/
theorem opcodeByte_fetchInstr (s : State) : opcodeByte (fetchInstr s) = s.seq.dataIn := by
  obtain ⟨-, hop, -⟩ := decodeWindow_sound s.regs.p.m s.regs.p.x s.seq.dataIn (s.busByte (codeAddr s.regs.pc 1))
    (s.busByte (codeAddr s.regs.pc 2)) (s.busByte (codeAddr s.regs.pc 3))
  rw [fetchInstr, hop, BitVec.ofNat_toNat, BitVec.setWidth_eq]

section
variable {s : State} {op : Byte} {i : Instr} {meaning : State → Result}

/-- The levels agree where the spec defines a handler: if `IMPLEMENTED` has the opcode, both run its rows; if not, both
refuse it. -/
theorem LevelsAgree.of_handler {g : Handler} {rows : List (State → State)} (hb : atBoundary s = true)
    (hop : s.seq.dataIn = op) (hexec : exec i s = withHandler op meaning s)
    (hg : rowsOf s.params.adcCarryCorner op = some g) (hmeaning : meaning s = .next (runClocks rows s))
    (hruns : AtOpcode op g s → EngineRuns rows s) (hlen : rows.length = instrClocks s.regs.p.m i) : LevelsAgree i s := by
  obtain ⟨-, hrlc, hic⟩ := atBoundary_iff.mp hb
  subst hop
  cases hp : s.params.implements s.seq.dataIn
  · exact .inr ⟨by simp [handlerOf, hp], hexec.trans (withHandler_of_not hp)⟩
  · exact .inl ⟨rows, hlen, hexec.trans ((withHandler_of hp).trans hmeaning),
      hruns ⟨hrlc, hic, rfl, handlerOf_some.mpr ⟨hp, hg⟩⟩⟩

/-- The levels agree on an immediate instruction: the decoder takes the operand at the width of the flag, which chooses the
path of the engine (R103, R143). -/
theorem LevelsAgree.of_immediate {flag : Status → Bool} {f8 : Byte → State → State} {f16 : Word → State → State}
    (hb : atBoundary s = true) (hop : s.seq.dataIn = op) (hexec : exec i s = withHandler op meaning s)
    (hg : rowsOf s.params.adcCarryCorner op = some (immRows flag f8 f16))
    (hmeaning : meaning s = immediate op (flag s.regs.p) f8 f16 (operandImm (flag s.regs.p)
      (s.busByte (codeAddr s.regs.pc 1)) (s.busByte (codeAddr s.regs.pc 2))) s)
    (hlen : instrClocks s.regs.p.m i = immClocks (operandImm (flag s.regs.p)
      (s.busByte (codeAddr s.regs.pc 1)) (s.busByte (codeAddr s.regs.pc 2))))
    (hb8 : ∀ b, HostBlind (immLast8 f8 b)) (hb16 : ∀ b, HostBlind (immLast16 f16 b)) : LevelsAgree i s := by
  cases hflag : flag s.regs.p <;> rw [hflag] at hmeaning hlen
  case false =>
    exact .of_handler hb hop hexec hg hmeaning
      (engineRuns_imm16 · hflag (loByte_mkWord _ _) (hiByte_mkWord _ _) (hb16 _)) hlen.symm
  case true => exact .of_handler hb hop hexec hg hmeaning (engineRuns_imm8 · hflag rfl (hb8 _)) hlen.symm

end

/-- The levels agree on each of the twenty opcodes whose handler the spec defines. -/
theorem levelsAgree_of_listed {s : State} (hb : atBoundary s = true) (hmem : s.seq.dataIn ∈ Config.implemented) :
    LevelsAgree (fetchInstr s) s := by
  simp only [Config.implemented, List.mem_cons, List.not_mem_nil, or_false] at hmem
  rw [fetchInstr]
  obtain h | h | h | h | h | h | h | h | h | h | h | h | h | h | h | h | h | h | h | h := hmem <;> rw [h]
  · exact .of_handler hb h (exec_clc_eq s) rfl rfl (engineRuns_implied2 · (impliedLast_blind _)) rfl
  · exact .of_handler hb h (exec_sec_eq s) rfl rfl (engineRuns_implied2 · (impliedLast_blind _)) rfl
  · exact .of_handler hb h (exec_jmpAbs_eq _ s) rfl rfl
      (engineRuns_jmpAbs · (loByte_mkWord _ _) (hiByte_mkWord _ _)) rfl
  · exact .of_handler hb h (exec_jmpAbsLong_eq _ s) rfl rfl
      (engineRuns_jmpLong · (by simp [operandLong]) (by simp [operandLong]) (bankOf_mkLong _ _)) rfl
  · exact .of_immediate hb h (exec_adcImm_eq _ s) rfl rfl rfl (immLast8_blind _) (immLast16_blind _)
  · exact .of_handler hb h (exec_dey_eq s) rfl rfl (engineRuns_implied2 · (impliedLast_blind _)) rfl
  · have hlen : (storeEnding s.regs.p.m).length + 3 = if s.regs.p.m then 4 else 5 := by cases s.regs.p.m <;> rfl
    exact .of_handler hb h (exec_staAbs_eq _ s) rfl (congrArg Host.Outcome.next (absWrite_eq_runClocks _))
      (engineRuns_absWrite · (loByte_mkWord _ _) (hiByte_mkWord _ _)) hlen
  · exact .of_immediate hb h (exec_ldyImm_eq _ s) rfl rfl rfl (immLast8_blind _) (immLast16_blind _)
  · exact .of_immediate hb h (exec_ldxImm_eq _ s) rfl rfl rfl (immLast8_blind _) (immLast16_blind _)
  · exact .of_immediate hb h (exec_ldaImm_eq _ s) rfl rfl rfl (immLast8_blind _) (immLast16_blind _)
  · exact .of_handler hb h (exec_tax_eq s) rfl rfl (engineRuns_implied2 · (impliedLast_blind _)) rfl
  · exact .of_handler hb h (exec_rep_eq _ s) rfl rfl (engineRuns_immp3 · rfl (maskLast_blind clearBits)) rfl
  · exact .of_handler hb h (exec_iny_eq s) rfl rfl (engineRuns_implied2 · (impliedLast_blind _)) rfl
  · exact .of_handler hb h (exec_dex_eq s) rfl rfl (engineRuns_implied2 · (impliedLast_blind _)) rfl
  · exact .of_handler hb h (exec_wai_eq s) rfl rfl engineRuns_halt3 rfl
  · exact .of_handler hb h (exec_stp_eq s) rfl rfl engineRuns_halt3 rfl
  · exact .of_handler hb h (exec_sep_eq _ s) rfl rfl (engineRuns_immp3 · rfl (maskLast_blind setBits)) rfl
  · exact .of_handler hb h (exec_inx_eq s) rfl rfl (engineRuns_implied2 · (impliedLast_blind _)) rfl
  · exact .of_handler hb h (exec_nop_eq s) rfl rfl (engineRuns_implied2 · (impliedLast_blind id)) rfl
  · exact .of_handler hb h (exec_xce_eq s) rfl rfl (engineRuns_implied2 · impliedLast_xce_blind) rfl

/-- The two levels agree on the instruction at a boundary. -/
theorem levelsAgree_fetchInstr {s : State} (hb : atBoundary s = true) : LevelsAgree (fetchInstr s) s := by
  by_cases hmem : s.seq.dataIn ∈ Config.implemented
  · exact levelsAgree_of_listed hb hmem
  · have hexec := exec_of_not_listed s (i := fetchInstr s) (by rwa [opcodeByte_fetchInstr])
    rw [opcodeByte_fetchInstr] at hexec
    exact .inr ⟨by simp [handlerOf, rowsOf_eq_none _ hmem], hexec⟩

/-- Every instruction takes a clock. -/
theorem instrClocks_pos (m : Bool) (i : Instr) : 0 < instrClocks m i := by
  cases i
  case adcImm imm | ldaImm imm | ldxImm imm | ldyImm imm => cases imm <;> exact Nat.succ_pos _
  case staAbs => cases m <;> exact Nat.succ_pos _
  all_goals exact Nat.succ_pos _

/-- The step at an instruction boundary with no reset inside the instruction is the instruction, then the host's moves of
its clocks. -/
theorem step_of_quiet {s : State} (hb : atBoundary s = true)
    (hq : quiet (instrClocks s.regs.p.m (fetchInstr s)) s = true) :
    step s = mapNext (hostMoves (instrClocks s.regs.p.m (fetchInstr s))) (exec (fetchInstr s) s) := by
  simp only [step, hb, hq, if_true]
  cases exec (fetchInstr s) s <;> rfl

/-- Settles O39: the rows of the fetched instruction are those the engine takes clock by clock, and the host's moves between
the clocks commute with them. -/
theorem stepRefinesCycles : Obligations.StepRefinesCycles := by
  unfold Obligations.StepRefinesCycles
  intro s hb hq
  obtain ⟨hresb, hrlc, hic⟩ := atBoundary_iff.mp hb
  rw [step_of_quiet hb hq]
  obtain ⟨rows, hlen, hexec, hruns⟩ | ⟨hnull, hexec⟩ := levelsAgree_fetchInstr hb
  · have hcycles := cycles_of_engineRuns hruns (resb_high_of_quiet hresb (hlen ▸ hq))
    rw [onHost_self, hruns.keeps_host (onHost_self s), hlen] at hcycles
    rw [hexec, hcycles, mapNext]
  · obtain ⟨k, hk⟩ := Nat.exists_eq_succ_of_ne_zero (instrClocks_pos s.regs.p.m (fetchInstr s)).ne'
    rw [hexec, hk, cycles_succ_of_refused k (cycle_of_null_handler hresb hrlc hic hnull), mapNext]

end Sys2Proof.Machine

/-!
SUPPORT. What one clock can do to the parameters, the bank of the `PC` and the parts of the invariant, said once of every
row of the cycle patterns (spec/40_cycle_engine.md R131 to R147). A step is a number of cycles, so what every cycle keeps,
every step keeps.
-/

namespace Sys2Proof.Machine

/-! ### A step is a number of cycles -/

theorem cycles_one (s : State) : cycles 1 s = cycle s := by
  rw [cycles]
  cases cycle s <;> rfl

/-- The number of cycles of the step from `s`: those of the fetched instruction where it runs whole, else one. -/
def stepClocks (s : State) : Nat :=
  if atBoundary s = true ∧ quiet (instrClocks s.regs.p.m (fetchInstr s)) s = true
  then instrClocks s.regs.p.m (fetchInstr s) else 1

theorem step_eq_cycles (s : State) : step s = cycles (stepClocks s) s := by
  unfold stepClocks
  split
  next h =>
    obtain ⟨hb, hq⟩ := h
    exact stepRefinesCycles s hb hq
  next h =>
    rw [cycles_one, step]
    split
    next hb => exact if_neg fun hq => h ⟨hb, hq⟩
    next => rfl

/-- What every cycle keeps, every run of cycles keeps. -/
theorem cycles_keep {P : State → Prop} (hcycle : ∀ s t, P s → cycle s = .next t → P t) {k : Nat} {s t : State}
    (hs : P s) (h : cycles k s = .next t) : P t := by
  induction k generalizing s with
  | zero => cases h; exact hs
  | succ k ih =>
    rw [cycles] at h
    split at h
    next u hu => exact ih (hcycle s u hs hu) h
    next => cases h
    next => cases h

/-- What every cycle keeps, every step keeps. -/
theorem step_keeps {P : State → Prop} (hcycle : ∀ s t, P s → cycle s = .next t → P t) {s t : State} (hs : P s)
    (h : step s = .next t) : P t :=
  cycles_keep hcycle hs ((step_eq_cycles s).symm.trans h)

/-! ### What a row can do -/

/-- The width flag that the 16-bit path of an immediate opcode is taken with is 0 (R139, R143). -/
def WidePathFlag (ir : Byte) (p : Status) : Prop :=
  (ir = 0x69 ∨ ir = 0xA9 → p.m = false) ∧ (ir = 0xA2 ∨ ir = 0xA0 → p.x = false)

theorem widthPathHolds_iff (s : State) :
    WidthPathHolds s ↔ (s.seq.rlc = 0 → s.seq.ic = 2 → WidePathFlag s.seq.ir s.regs.p) := Iff.rfl

theorem WidePathFlag.of_not_immediate {ir : Byte} (h : ir ∉ [0x69, 0xA9, 0xA2, 0xA0]) (p : Status) :
    WidePathFlag ir p := by
  simp only [List.mem_cons, List.not_mem_nil, or_false, not_or] at h
  obtain ⟨hadc, hlda, hldx, hldy⟩ := h
  exact ⟨fun e => (e.elim hadc hlda).elim, fun e => (e.elim hldx hldy).elim⟩

/-- What a row that goes on inside its instruction did: the `PC` moved within its bank, and `ic` names a later row. -/
structure RowInside (s u : State) : Prop where
  params : u.params = s.params
  devices : u.devices = s.devices
  regs : u.regs = { s.regs with pc := u.regs.pc }
  bank : bankOf u.regs.pc = bankOf s.regs.pc
  rlc : u.seq.rlc = s.seq.rlc
  ir : u.seq.ir = s.seq.ir
  ic : u.seq.ic ≠ 0
  rows : u.seq.ic.toNat < patternRows s.seq.ir
  path : u.seq.ic = 2 → WidePathFlag s.seq.ir s.regs.p
  vpb : u.pins.ctl.vpb = true
  mlb : u.pins.ctl.mlb = true
  eLine : u.pins.eLine = s.pins.eLine

/-- What a last row did before it presented the next opcode: its operation on the registers. Only the last row of JMP long
leaves the bank of the `PC` (R221 (a)). -/
structure RowLast (s v : State) : Prop where
  params : v.params = s.params
  devices : v.devices = s.devices
  rlc : v.seq.rlc = s.seq.rlc
  fixed : v.regs.d = s.regs.d ∧ v.regs.dbr = s.regs.dbr ∧ v.regs.sp = s.regs.sp
  widths : s.seq.rlc = 0 → WidthPathHolds s → WidthsHold s.regs → WidthsHold v.regs
  eLine : s.pins.eLine = s.regs.epE → v.pins.eLine = v.regs.epE
  bank : bankOf v.regs.pc = bankOf s.regs.pc ∨ (s.seq.ir = 0x5C ∧ s.seq.ic = 3)

/-- What a row did: it goes on inside its instruction, or it closes it. -/
inductive RowRan (s : State) : State → Prop
  | inside {u : State} (h : RowInside s u) : RowRan s u
  | last {v : State} (h : RowLast s v) : RowRan s (closeInstr v)

theorem RowRan.params {s u : State} (h : RowRan s u) : u.params = s.params := by
  cases h with
  | inside h => exact h.params
  | last h => exact h.params

section
variable {s : State}

theorem openOperand_inside (h : 1 < patternRows s.seq.ir) : RowInside s (openOperand s) :=
  ⟨rfl, rfl, rfl, bankOf_incOffset _, rfl, rfl, (by decide : (1 : Byte) ≠ 0), h, nofun, rfl, rfl, rfl⟩

theorem openInternal_inside (h : 1 < patternRows s.seq.ir) : RowInside s (openInternal s) :=
  ⟨rfl, rfl, rfl, bankOf_incOffset _, rfl, rfl, (by decide : (1 : Byte) ≠ 0), h, nofun, rfl, rfl, rfl⟩

theorem operandLow_inside (b : Byte) (h : 2 < patternRows s.seq.ir) (hpath : WidePathFlag s.seq.ir s.regs.p) :
    RowInside s (operandLow b s) :=
  ⟨rfl, rfl, rfl, bankOf_incOffset _, rfl, rfl, (by decide : (2 : Byte) ≠ 0), h, fun _ => hpath, rfl, rfl, rfl⟩

theorem maskLatch_inside (b : Byte) (h : 2 < patternRows s.seq.ir) (hpath : WidePathFlag s.seq.ir s.regs.p) :
    RowInside s (maskLatch b s) :=
  ⟨rfl, rfl, rfl, bankOf_incOffset _, rfl, rfl, (by decide : (2 : Byte) ≠ 0), h, fun _ => hpath, rfl, rfl, rfl⟩

theorem haltHold_inside (h : 2 < patternRows s.seq.ir) (hpath : WidePathFlag s.seq.ir s.regs.p) :
    RowInside s (haltHold s) :=
  ⟨rfl, rfl, rfl, rfl, rfl, rfl, (by decide : (2 : Byte) ≠ 0), h, fun _ => hpath, rfl, rfl, rfl⟩

theorem operandHigh_inside (b : Byte) (h : 3 < patternRows s.seq.ir) : RowInside s (operandHigh b s) :=
  ⟨rfl, rfl, rfl, bankOf_incOffset _, rfl, rfl, (by decide : (3 : Byte) ≠ 0), h, nofun, rfl, rfl, rfl⟩

theorem storeLow_inside (b : Byte) (h : 3 < patternRows s.seq.ir) : RowInside s (storeLow b s) :=
  ⟨rfl, rfl, rfl, bankOf_incOffset _, rfl, rfl, (by decide : (3 : Byte) ≠ 0), h, nofun, rfl, rfl, rfl⟩

theorem storeHigh_inside (h : 4 < patternRows s.seq.ir) : RowInside s (storeHigh s) :=
  ⟨rfl, rfl, rfl, rfl, rfl, rfl, (by decide : (4 : Byte) ≠ 0), h, nofun, rfl, rfl, rfl⟩

/-- Where the `PC` points says nothing about the widths. -/
theorem widthsHold_with_pc (r : Regs) (pc : Long) : WidthsHold { r with pc := pc } ↔ WidthsHold r := Iff.rfl

/-- A last row whose operation on registers is a `RegisterOp`, over a state that differs in operand latches and the `PC`
at most. -/
theorem RowLast.of_op {f : Regs → Regs} (hf : RegisterOp f) {pc : Long} {tl th : Byte}
    (hbank : bankOf pc = bankOf s.regs.pc) :
    RowLast s (onRegs f { s with regs := { s.regs with pc := pc }, seq := { s.seq with tl := tl, th := th } }) where
  params := rfl
  devices := rfl
  rlc := rfl
  fixed := by
    obtain ⟨-, hd, hsp, hdbr⟩ := hf.fixed { s.regs with pc := pc }
    exact ⟨hd, hdbr, hsp⟩
  widths _ _ h := hf.widths _ ((widthsHold_with_pc s.regs pc).mpr h)
  eLine h := h.trans (hf.epE { s.regs with pc := pc }).symm
  bank := .inl ((congrArg bankOf (hf.pc _)).trans hbank)

/-- The last row of the 16-bit path of an immediate instruction (R143). -/
theorem RowLast.of_wide {flag : Status → Bool} {f8 : Byte → Regs → Regs} {f16 : Word → Regs → Regs}
    (hf : ImmediateOps s.seq.ir flag f8 f16) (hic : s.seq.ic = 2) (b : Byte) (w : Word) :
    RowLast s (onRegs (f16 w) (incPc (setTh b s))) where
  params := rfl
  devices := rfl
  rlc := rfl
  fixed := by
    obtain ⟨-, hd, hsp, hdbr⟩ := hf.fixed w (incPc (setTh b s)).regs
    exact ⟨hd, hdbr, hsp⟩
  widths hrlc hpath h := hf.widths w _ (hpath hrlc hic).2 ((widthsHold_with_pc s.regs _).mpr h)
  eLine h := h.trans (hf.epE w (incPc s).regs).symm
  bank := .inl ((congrArg bankOf (hf.pc w _)).trans (bankOf_incOffset _))

/-- XCE with the carry 0 enters native mode, or stays in it (R172). -/
theorem exchangeCarry_of_carry_false {r : Regs} (hc : r.p.c = false) :
    exchangeCarry r = { r with epE := false, p := { r.p with c := r.epE } } := by
  simp [exchangeCarry, hc]

/-- XCE with the carry 1 enters emulation mode, or stays in it: M and X are set, the index high bytes cleared (R172). -/
theorem exchangeCarry_of_carry_true {r : Regs} (hc : r.p.c = true) :
    exchangeCarry r = { r with
      epE := true, x := mkWord 0x00 (loByte r.x), y := mkWord 0x00 (loByte r.y),
      p := { r.p with c := r.epE, m := true, x := true } } := by
  simp [exchangeCarry, hc, Regs.clearIndexHigh, Status.forceNarrow]

theorem exchangeCarry_widths {r : Regs} (h : WidthsHold r) : WidthsHold (exchangeCarry r) := by
  cases hc : r.p.c
  · rw [exchangeCarry_of_carry_false hc]
    exact ⟨h.1, nofun⟩
  · rw [exchangeCarry_of_carry_true hc]
    exact ⟨fun _ => ⟨hiByte_mkWord _ _, hiByte_mkWord _ _⟩, fun _ => ⟨rfl, rfl⟩⟩

theorem exchangeCarry_frame (r : Regs) :
    (exchangeCarry r).pc = r.pc ∧ (exchangeCarry r).d = r.d ∧ (exchangeCarry r).dbr = r.dbr ∧
      (exchangeCarry r).sp = r.sp := by
  cases hc : r.p.c
  · rw [exchangeCarry_of_carry_false hc]; exact ⟨rfl, rfl, rfl, rfl⟩
  · rw [exchangeCarry_of_carry_true hc]; exact ⟨rfl, rfl, rfl, rfl⟩

theorem RowLast.of_xce : RowLast s (opXce s) := by
  obtain ⟨hpc, hfixed⟩ := exchangeCarry_frame s.regs
  exact ⟨rfl, rfl, rfl, hfixed, fun _ _ => exchangeCarry_widths, fun _ => rfl, .inl (congrArg bankOf hpc)⟩

/-! ### The rows of each pattern -/

variable {u : State}

theorem implied2Rows_ran {f : State → State} (hlast : RowLast s (f s)) (hrows : patternRows s.seq.ir = 2)
    (h : implied2Rows f s = some u) : RowRan s u := by
  unfold implied2Rows at h
  split at h
  · cases h; exact .inside (openInternal_inside (by omega))
  split at h
  · cases h; exact .last hlast
  · cases h

theorem immp3Rows_ran {f : Byte → Regs → Regs} (hf : ∀ m, RegisterOp (f m)) (hrows : patternRows s.seq.ir = 3)
    (hpath : WidePathFlag s.seq.ir s.regs.p) (h : immp3Rows (fun m => onRegs (f m)) s = some u) : RowRan s u := by
  unfold immp3Rows at h
  split at h
  · cases h; exact .inside (openOperand_inside (by omega))
  split at h
  · cases h; exact .inside (maskLatch_inside _ (by omega) hpath)
  split at h
  · cases h; exact .last (.of_op (hf _) rfl)
  · cases h

theorem ImmediateOps.patternRows_eq {ir : Byte} {flag : Status → Bool} {f8 : Byte → Regs → Regs}
    {f16 : Word → Regs → Regs} (hf : ImmediateOps ir flag f8 f16) : patternRows ir = 3 := by
  obtain ⟨-, rfl | rfl⟩ | ⟨-, rfl | rfl⟩ := hf.flag <;> rfl

theorem ImmediateOps.widePathFlag {ir : Byte} {flag : Status → Bool} {f8 : Byte → Regs → Regs}
    {f16 : Word → Regs → Regs} (hf : ImmediateOps ir flag f8 f16) {p : Status} (h : flag p = false) :
    WidePathFlag ir p := by
  obtain ⟨rfl, rfl | rfl⟩ | ⟨rfl, rfl | rfl⟩ := hf.flag
  · exact ⟨fun _ => h, fun e => absurd e (by decide)⟩
  · exact ⟨fun _ => h, fun e => absurd e (by decide)⟩
  · exact ⟨fun e => absurd e (by decide), fun _ => h⟩
  · exact ⟨fun e => absurd e (by decide), fun _ => h⟩

theorem immRows_ran {flag : Status → Bool} {f8 : Byte → Regs → Regs} {f16 : Word → Regs → Regs}
    (hf : ImmediateOps s.seq.ir flag f8 f16)
    (h : immRows flag (fun v => onRegs (f8 v)) (fun v => onRegs (f16 v)) s = some u) : RowRan s u := by
  have hrows := hf.patternRows_eq
  unfold immRows at h
  split at h
  · cases h; exact .inside (openOperand_inside (by omega))
  split at h
  · split at h
    · cases h; exact .last (.of_op (hf.narrow _) (bankOf_incOffset _))
    next hflag =>
      cases h; exact .inside (operandLow_inside _ (by omega) (hf.widePathFlag (by simpa using hflag)))
  split at h
  next hic => cases h; exact .last (.of_wide hf hic _ _)
  next => cases h

theorem absWriteRows_ran (hi : s.seq.ir = 0x8D) (h : absWriteRows s = some u) : RowRan s u := by
  have hrows : patternRows s.seq.ir = 5 := by rw [hi]; rfl
  have hclose : RowLast s s := .of_op id_op rfl
  unfold absWriteRows at h
  split at h
  · cases h; exact .inside (openOperand_inside (by omega))
  split at h
  · cases h; exact .inside (operandLow_inside _ (by omega) (.of_not_immediate (by rw [hi]; decide) _))
  split at h
  · cases h; exact .inside (storeLow_inside _ (by omega))
  split at h
  · split at h
    · cases h; exact .last hclose
    · cases h; exact .inside (storeHigh_inside (by omega))
  split at h
  · cases h; exact .last hclose
  · cases h

theorem jmpAbsRows_ran (hi : s.seq.ir = 0x4C) (h : jmpAbsRows s = some u) : RowRan s u := by
  have hrows : patternRows s.seq.ir = 3 := by rw [hi]; rfl
  unfold jmpAbsRows at h
  split at h
  · cases h; exact .inside (openOperand_inside (by omega))
  split at h
  · cases h; exact .inside (operandLow_inside _ (by omega) (.of_not_immediate (by rw [hi]; decide) _))
  split at h
  · cases h; exact .last (.of_op id_op (bankOf_mkLong _ _))
  · cases h

theorem jmpLongRows_ran (hi : s.seq.ir = 0x5C) (h : jmpLongRows s = some u) : RowRan s u := by
  have hrows : patternRows s.seq.ir = 4 := by rw [hi]; rfl
  unfold jmpLongRows at h
  split at h
  · cases h; exact .inside (openOperand_inside (by omega))
  split at h
  · cases h; exact .inside (operandLow_inside _ (by omega) (.of_not_immediate (by rw [hi]; decide) _))
  split at h
  · cases h; exact .inside (operandHigh_inside _ (by omega))
  split at h
  next hic => cases h; exact .last ⟨rfl, rfl, rfl, ⟨rfl, rfl, rfl⟩, fun _ _ => id, id, .inr ⟨hi, hic⟩⟩
  next => cases h

theorem halt3Rows_ran (hi : s.seq.ir = 0xDB ∨ s.seq.ir = 0xCB) (h : halt3Rows s = some u) : RowRan s u := by
  have hrows : patternRows s.seq.ir = 3 := by rcases hi with hi | hi <;> rw [hi] <;> rfl
  have hpath : WidePathFlag s.seq.ir s.regs.p := .of_not_immediate (by rcases hi with hi | hi <;> rw [hi] <;> decide) _
  unfold halt3Rows at h
  split at h
  · cases h; exact .inside (openInternal_inside (by omega))
  split at h
  · cases h; exact .inside (haltHold_inside (by omega) hpath)
  split at h
  · cases h; exact .inside (haltHold_inside (by omega) hpath)
  · cases h

/-- The inversion of a handler's row. -/
theorem HandlerCase.ran {g : Handler} (hg : HandlerCase s.seq.ir g) (h : g s = some u) : RowRan s u := by
  cases hg with
  | implied2 f hf rows => exact implied2Rows_ran (.of_op hf rfl) rows h
  | xce hi => exact implied2Rows_ran .of_xce (by rw [hi]; rfl) h
  | immp3 f hf hi =>
    exact immp3Rows_ran hf (by rcases hi with hi | hi <;> rw [hi] <;> rfl)
      (.of_not_immediate (by rcases hi with hi | hi <;> rw [hi] <;> decide) _) h
  | imm flag f8 f16 hf => exact immRows_ran hf h
  | absWrite hi => exact absWriteRows_ran hi h
  | jmpAbs hi => exact jmpAbsRows_ran hi h
  | jmpLong hi => exact jmpLongRows_ran hi h
  | halt3 hi => exact halt3Rows_ran hi h

end

/-! ### What one cycle can do -/

/-- The state in which a handler is looked up: PHI2 high and the opcode latched where `ic = 0` (R69, R131). -/
def dispatchState (s : State) : State := latched (setPhi2 true s)

@[simp] theorem dispatchState_params (s : State) : (dispatchState s).params = s.params := by
  unfold dispatchState latched; split <;> rfl
@[simp] theorem dispatchState_regs (s : State) : (dispatchState s).regs = s.regs := by
  unfold dispatchState latched; split <;> rfl
@[simp] theorem dispatchState_devices (s : State) : (dispatchState s).devices = s.devices := by
  unfold dispatchState latched; split <;> rfl
@[simp] theorem dispatchState_rlc (s : State) : (dispatchState s).seq.rlc = s.seq.rlc := by
  unfold dispatchState latched; split <;> rfl
@[simp] theorem dispatchState_ic (s : State) : (dispatchState s).seq.ic = s.seq.ic := by
  unfold dispatchState latched; split <;> rfl
@[simp] theorem dispatchState_pins (s : State) : (dispatchState s).pins = { s.pins with phi2 := true } := by
  unfold dispatchState latched; split <;> rfl

/-- Inside an instruction `IR` stays. -/
theorem dispatchState_ir {s : State} (h : s.seq.ic ≠ 0) : (dispatchState s).seq.ir = s.seq.ir := by
  rw [dispatchState, latched, if_neg (show (setPhi2 true s).seq.ic ≠ 0 from h)]; rfl

/-- What one clock can do: count a low RESB, release reset, or run a row of a handler that is present. -/
inductive ClockDid (s : State) : State → Prop
  | held (hresb : s.pins.resb = false) : ClockDid s (resetHold (setPhi2 true s))
  | released (hresb : s.pins.resb = true) (hrlc : 2 ≤ s.seq.rlc) : ClockDid s (resetRelease (setPhi2 true s))
  | row {u : State} (hresb : s.pins.resb = true) (hrlc : s.seq.rlc = 0)
      (himpl : s.params.implements (dispatchState s).seq.ir = true) (hran : RowRan (dispatchState s) u) : ClockDid s u

/-- The inversion of one cycle. -/
theorem cycle_did {s t : State} (h : cycle s = .next t) : ∃ u, ClockDid s u ∧ t = hostMove (busTick u) := by
  obtain ⟨u, hclock, rfl⟩ := cycle_next h
  refine ⟨u, ?_, rfl⟩
  obtain ⟨hresb, rfl⟩ | ⟨hresb, hrlc, rfl⟩ | ⟨hresb, hrlc, g, hg, hu⟩ := clock_next hclock
  · exact .held hresb
  · exact .released hresb hrlc
  · change handlerOf (dispatchState s).params (dispatchState s).seq.ir = some g at hg
    obtain ⟨himpl, hcase⟩ := handlerOf_cases hg
    rw [dispatchState_params] at himpl
    exact .row hresb hrlc himpl (hcase.ran hu)

@[simp] theorem resetHold_params (s : State) : (resetHold s).params = s.params := by
  unfold resetHold; dsimp only; split <;> rfl
@[simp] theorem resetHold_pc (s : State) : (resetHold s).regs.pc = s.regs.pc := by
  unfold resetHold; dsimp only; split <;> rfl

/-- Settles O44: no clock writes the parameters, and neither the bus tick nor the host's move does. -/
theorem parametersNeverChange : Obligations.ParametersNeverChange := by
  unfold Obligations.ParametersNeverChange
  have hcycle : ∀ s t : State, cycle s = .next t → t.params = s.params := by
    intro s t h
    obtain ⟨u, hdid, rfl⟩ := cycle_did h
    rw [hostMove_params, busTick_params]
    cases hdid with
    | held => exact resetHold_params _
    | released => rfl
    | row _ _ _ hran => rw [hran.params, dispatchState_params]
  rintro s t (h | h)
  · exact step_keeps (P := fun u => u.params = s.params) (fun u v hu hv => (hcycle u v hv).trans hu) rfl h
  · exact hcycle s t h

/-- Settles O35: a row keeps the bank unless it is the last of JMP long, and a low RESB leaves the `PC`. -/
theorem onlyLongJumpAndResetChangeBank : Obligations.OnlyLongJumpAndResetChangeBank := by
  unfold Obligations.OnlyLongJumpAndResetChangeBank
  intro s t h hbank
  obtain ⟨u, hdid, rfl⟩ := cycle_did h
  rw [hostMove_regs, busTick_regs] at hbank
  cases hdid with
  | held => exact absurd (congrArg bankOf (resetHold_pc _)) hbank
  | released hresb hrlc => exact ⟨hresb, .inr hrlc⟩
  | row hresb hrlc _ hran =>
    cases hran with
    | inside hin => exact absurd (by simpa using hin.bank) hbank
    | last hlast =>
      obtain hsame | ⟨hir, hic⟩ := hlast.bank
      · exact absurd (by simpa [closeInstr] using hsame) hbank
      · rw [dispatchState_ic] at hic
        rw [dispatchState_ir (by rw [hic]; decide)] at hir
        exact ⟨hresb, .inl ⟨hrlc, hir, hic⟩⟩

/-! ### The invariant -/

@[simp] theorem busTick_ir (s : State) : (busTick s).seq.ir = s.seq.ir := by rw [busTick_seq]
@[simp] theorem busTick_ic (s : State) : (busTick s).seq.ic = s.seq.ic := by rw [busTick_seq]
@[simp] theorem busTick_rlc (s : State) : (busTick s).seq.rlc = s.seq.rlc := by rw [busTick_seq]

/-- The bus tick keeps every store canonical, whichever way it goes (R63). -/
theorem DevicesHold.busTick {s : State} (h : DevicesHold s) : DevicesHold (busTick s) := by
  unfold DevicesHold
  cases hrwb : s.pins.ctl.rwb
  · rw [busTick_of_write s hrwb]; exact busWrite_wf h _ _
  · rw [busTick_of_read s hrwb]; exact h

/-- What holds between `Clock()` and the bus tick: the invariant, but that `data_in` is still to be read. -/
structure ClockInv (u : State) : Prop where
  widths : WidthsHold u.regs
  fixed : FixedRegistersHold u.regs
  vpb : u.pins.ctl.vpb = true
  mlb : u.pins.ctl.mlb = true
  eLine : u.pins.eLine = u.regs.epE
  counters : CountersHold u
  path : WidthPathHolds u
  presented : u.seq.rlc = 0 → u.seq.ic = 0 → u.pins.addressOut = u.regs.pc ∧ u.pins.ctl = .fetchOpcode
  devices : DevicesHold u

/-- The host's move touches nothing the invariant speaks of. -/
theorem Inv.hostMove {s : State} (h : Inv s) : Inv (hostMove s) := by
  unfold Machine.hostMove
  split
  · exact h
  · exact h

/-- The bus tick reads the opcode that is presented. -/
theorem ClockInv.tick {u : State} (h : ClockInv u) : Inv (hostMove (busTick u)) := by
  have hpresented : u.seq.rlc = 0 → u.seq.ic = 0 → OpcodePresented (busTick u) := by
    intro hrlc hic
    obtain ⟨haddr, hctl⟩ := h.presented hrlc hic
    rw [busTick_of_read u (by rw [hctl]; rfl)]
    exact ⟨haddr, hctl, congrArg u.busByte haddr⟩
  refine Inv.hostMove ⟨?_, ?_, ⟨?_, ?_, ?_, ?_⟩, ?_, ?_, ?_, h.devices.busTick⟩
  · simpa using h.widths
  · simpa using h.fixed
  · simpa using h.vpb
  · simpa using h.mlb
  · simpa using h.eLine
  · simp
  · simpa [CountersHold] using h.counters
  · simpa [WidthPathHolds] using h.path
  · simpa [BoundaryHolds] using hpresented

section
variable {s u : State}

/-- Only `ic = 2` is on the 16-bit path. -/
theorem widthPathHolds_of_ic_zero (h : s.seq.ic = 0) : WidthPathHolds s :=
  fun _ hic => absurd (h.symm.trans hic) (by decide)

theorem WidthPathHolds.dispatchState (h : WidthPathHolds s) : WidthPathHolds (Machine.dispatchState s) := by
  intro hrlc hic
  rw [dispatchState_rlc] at hrlc
  rw [dispatchState_ic] at hic
  rw [dispatchState_ir (by rw [hic]; decide), dispatchState_regs]
  exact h hrlc hic

/-- A low RESB leaves the registers alone, or forces the reset state, which has the widths and the fixed registers of
emulation mode (R300, R301); with `rlc` above 0 nothing is claimed of `ic`. -/
theorem resetHold_clockInv (h : Inv s) : ClockInv (resetHold (setPhi2 true s)) := by
  obtain ⟨hwidths, hfixed, ⟨hvpb, hmlb, heLine, -⟩, ⟨-, hic⟩, -, -, hdevices⟩ := h
  have hpos : 0 < min (s.seq.rlc + 1) 2 := by omega
  have hsat : min (s.seq.rlc + 1) 2 ≤ 2 := by omega
  unfold resetHold
  dsimp only
  split
  · exact {
      widths := ⟨fun _ => ⟨hiByte_mkWord _ _, hiByte_mkWord _ _⟩, fun _ => ⟨rfl, rfl⟩⟩
      fixed := ⟨rfl, rfl, by simp [forceResetState]⟩
      vpb := rfl
      mlb := rfl
      eLine := rfl
      counters := ⟨hsat, hic⟩
      path := fun h0 => absurd h0 hpos.ne'
      presented := fun h0 => absurd h0 hpos.ne'
      devices := hdevices }
  · exact {
      widths := hwidths
      fixed := hfixed
      vpb := hvpb
      mlb := hmlb
      eLine := heLine
      counters := ⟨hsat, hic⟩
      path := fun h0 => absurd h0 hpos.ne'
      presented := fun h0 => absurd h0 hpos.ne'
      devices := hdevices }

/-- The release of reset presents the opcode at the vector (R303). -/
theorem resetRelease_clockInv (h : Inv s) : ClockInv (resetRelease (setPhi2 true s)) := by
  obtain ⟨hwidths, hfixed, ⟨-, -, heLine, -⟩, -, -, -, hdevices⟩ := h
  exact {
    widths := hwidths
    fixed := hfixed
    vpb := rfl
    mlb := rfl
    eLine := heLine
    counters := ⟨Nat.zero_le 2, .inl rfl⟩
    path := widthPathHolds_of_ic_zero rfl
    presented := fun _ _ => ⟨rfl, rfl⟩
    devices := hdevices }

theorem RowInside.clockInv (h : Inv s) (hrlc : s.seq.rlc = 0)
    (himpl : s.params.implements (dispatchState s).seq.ir = true) (hin : RowInside (dispatchState s) u) : ClockInv u := by
  obtain ⟨hwidths, hfixed, ⟨-, -, heLine, -⟩, -, -, -, hdevices⟩ := h
  have hregs : u.regs = { s.regs with pc := u.regs.pc } := by simpa using hin.regs
  have hparams : u.params = s.params := by simpa using hin.params
  have hzero : u.seq.rlc = 0 := by simpa [hrlc] using hin.rlc
  exact {
    widths := by rw [hregs]; exact hwidths
    fixed := by rw [hregs]; exact hfixed
    vpb := hin.vpb
    mlb := hin.mlb
    eLine := by rw [hin.eLine, hregs]; simpa using heLine
    counters := ⟨by omega, .inr ⟨by rw [hparams, hin.ir]; exact himpl, by rw [hin.ir]; exact hin.rows⟩⟩
    path := (widthPathHolds_iff u).mpr fun _ hic => by rw [hin.ir, hregs]; simpa using hin.path hic
    presented := fun _ hic => absurd hic hin.ic
    devices := by rw [DevicesHold, hin.devices, dispatchState_devices]; exact hdevices }

theorem RowLast.clockInv (h : Inv s) (hrlc : s.seq.rlc = 0) (hlast : RowLast (dispatchState s) u) :
    ClockInv (closeInstr u) := by
  obtain ⟨hwidths, hfixed, ⟨-, -, heLine, -⟩, -, hpath, -, hdevices⟩ := h
  have hzero : u.seq.rlc = 0 := by simpa [hrlc] using hlast.rlc
  exact {
    widths := hlast.widths (by simpa using hrlc) (hpath.dispatchState) (by simpa using hwidths)
    fixed := by
      obtain ⟨hd, hdbr, hsp⟩ := hlast.fixed
      simpa [FixedRegistersHold, closeInstr, hd, hdbr, hsp] using hfixed
    vpb := rfl
    mlb := rfl
    eLine := hlast.eLine (by simpa using heLine)
    counters := ⟨by simp [closeInstr, hzero], .inl rfl⟩
    path := widthPathHolds_of_ic_zero rfl
    presented := fun _ _ => ⟨rfl, rfl⟩
    devices := by
      show u.devices.all Device.wf = true
      rw [hlast.devices, dispatchState_devices]
      exact hdevices }

theorem cycle_keeps_inv (h : Inv s) (hcycle : cycle s = .next u) : Inv u := by
  obtain ⟨v, hdid, rfl⟩ := cycle_did hcycle
  refine ClockInv.tick ?_
  cases hdid with
  | held => exact resetHold_clockInv h
  | released => exact resetRelease_clockInv h
  | row _ hrlc himpl hran =>
    cases hran with
    | inside hin => exact hin.clockInv h hrlc himpl
    | last hlast => exact hlast.clockInv h hrlc

end

/-- Settles O41: every cycle keeps the invariant, whatever it does, and a step is a number of cycles. -/
theorem stepKeepsInvariant : Obligations.StepKeepsInvariant := by
  unfold Obligations.StepKeepsInvariant
  exact fun s t h hstep => step_keeps (fun _ _ => cycle_keeps_inv) h hstep

/-- Settles O40: the state after reset has emulation widths and presents the opcode at the vector; a well-formed platform
is what `DevicesHold` asks for. -/
theorem resetMeetsInvariant : Obligations.ResetMeetsInvariant := by
  unfold Obligations.ResetMeetsInvariant
  have hlaunch : ∀ (p : Config.Params) (w : Draws) (ds : List Device), ds.all Device.wf = true →
      Inv (State.launch p w ds) := by
    intro p w ds hds
    have hwidths : WidthsHold (State.launch p w ds).regs :=
      ⟨fun _ => ⟨hiByte_mkWord _ _, hiByte_mkWord _ _⟩, fun _ => ⟨rfl, rfl⟩⟩
    have hfixed : FixedRegistersHold (State.launch p w ds).regs := ⟨rfl, rfl, by simp [State.launch]⟩
    exact ⟨hwidths, hfixed, ⟨rfl, rfl, rfl, rfl⟩, ⟨Nat.zero_le 2, .inl rfl⟩,
      widthPathHolds_of_ic_zero rfl, fun _ _ => ⟨rfl, rfl, rfl⟩, hds⟩
  exact ⟨hlaunch, hlaunch _ _ _ (by decide)⟩

end Sys2Proof.Machine

/-!
SUPPORT. The lines no rule samples (spec/10_state.md R42, spec/60_exceptions.md R273): every part of a clock commutes with
a change of their levels.
-/

namespace Sys2Proof.Machine

section
variable (l : UnsampledLines) (s : State)

@[simp] theorem withUnsampled_regs : (withUnsampled l s).regs = s.regs := rfl
@[simp] theorem withUnsampled_seq : (withUnsampled l s).seq = s.seq := rfl
@[simp] theorem withUnsampled_params : (withUnsampled l s).params = s.params := rfl
@[simp] theorem withUnsampled_resb : (withUnsampled l s).pins.resb = s.pins.resb := rfl

theorem latched_withUnsampled : latched (withUnsampled l s) = withUnsampled l (latched s) :=
  (apply_ite (withUnsampled l) (s.seq.ic = 0) (latchIr s.seq.dataIn s) s).symm

theorem resetHold_withUnsampled : resetHold (withUnsampled l s) = withUnsampled l (resetHold s) := by
  unfold resetHold
  dsimp only [withUnsampled_seq]
  split <;> rfl

theorem busTick_withUnsampled : busTick (withUnsampled l s) = withUnsampled l (busTick s) := by
  cases hrwb : s.pins.ctl.rwb
  · rw [busTick_of_write s hrwb, busTick_of_write _ (show (withUnsampled l s).pins.ctl.rwb = false from hrwb)]; rfl
  · rw [busTick_of_read s hrwb, busTick_of_read _ (show (withUnsampled l s).pins.ctl.rwb = true from hrwb)]; rfl

theorem hostMove_withUnsampled : hostMove (withUnsampled l s) = withUnsampled l (hostMove s) := by
  cases hl : s.hostResb <;> simp [hostMove, withUnsampled, hl]

/-- A handler gives the same row, on the other levels. -/
theorem HandlerCase.withUnsampled {ir : Byte} {g : Handler} (hg : HandlerCase ir g) :
    g (Machine.withUnsampled l s) = (g s).map (Machine.withUnsampled l) := by
  have hmap := @apply_ite _ _ (Option.map (Machine.withUnsampled l))
  cases hg with
  | implied2 f hf rows => simp only [implied2Rows, hmap]; rfl
  | xce hi => simp only [implied2Rows, hmap]; rfl
  | immp3 f hf hi => simp only [immp3Rows, hmap]; rfl
  | imm flag f8 f16 hf => simp only [immRows, hmap]; rfl
  | absWrite hi => simp only [absWriteRows, hmap]; rfl
  | jmpAbs hi => simp only [jmpAbsRows, hmap]; rfl
  | jmpLong hi => simp only [jmpLongRows, hmap]; rfl
  | halt3 hi => simp only [halt3Rows, hmap]; rfl

end

/-! ### The dispatch, case by case -/

section
variable {s u : State} {g : Handler}

theorem dispatchClock_of_null (h : handlerOf (latched s).params (latched s).seq.ir = none) :
    dispatchClock s = nullHandler placeholderTreatment (latched s) := by
  unfold latched at *
  simp only [dispatchClock, h]

theorem dispatchClock_of_row (h : handlerOf (latched s).params (latched s).seq.ir = some g)
    (hu : g (latched s) = some u) : dispatchClock s = .next u := by
  unfold latched at *
  simp only [dispatchClock, h, hu]

theorem dispatchClock_of_no_row (h : handlerOf (latched s).params (latched s).seq.ir = some g)
    (hu : g (latched s) = none) : dispatchClock s = .fault (.noMicroStep (latched s).seq.ir (latched s).seq.ic) := by
  unfold latched at *
  simp only [dispatchClock, h, hu]

end

section
variable (l : UnsampledLines) (s : State)

theorem dispatchClock_withUnsampled :
    dispatchClock (withUnsampled l s) = mapNext (withUnsampled l) (dispatchClock s) := by
  have hl := latched_withUnsampled l s
  cases hg : handlerOf (latched s).params (latched s).seq.ir with
  | none =>
    rw [dispatchClock_of_null hg, dispatchClock_of_null (by rw [hl]; exact hg), hl]
    rfl
  | some g =>
    have hrow := (handlerOf_cases hg).2.withUnsampled l (latched s)
    cases hu : g (latched s) with
    | none =>
      rw [dispatchClock_of_no_row hg hu, dispatchClock_of_no_row (by rw [hl]; exact hg) (by rw [hl, hrow, hu]; rfl), hl]
      rfl
    | some u =>
      rw [dispatchClock_of_row hg hu, dispatchClock_of_row (by rw [hl]; exact hg) (by rw [hl, hrow, hu]; rfl)]
      rfl

theorem clock_withUnsampled : clock (withUnsampled l s) = mapNext (withUnsampled l) (clock s) := by
  have hphi : setPhi2 true (withUnsampled l s) = withUnsampled l (setPhi2 true s) := rfl
  simp only [clock, hphi, withUnsampled_resb, withUnsampled_seq]
  split_ifs
  · exact congrArg Host.Outcome.next (resetHold_withUnsampled l _)
  · rfl
  · rfl
  · exact dispatchClock_withUnsampled l _

theorem cycle_withUnsampled : cycle (withUnsampled l s) = mapNext (withUnsampled l) (cycle s) := by
  unfold cycle
  rw [clock_withUnsampled]
  cases clock s with
  | next u => exact congrArg Host.Outcome.next (by rw [busTick_withUnsampled, hostMove_withUnsampled])
  | fault r => rfl
  | refused r => rfl

theorem cycles_withUnsampled (k : Nat) : cycles k (withUnsampled l s) = mapNext (withUnsampled l) (cycles k s) := by
  induction k generalizing s with
  | zero => rfl
  | succ k ih =>
    rw [cycles, cycles, cycle_withUnsampled]
    cases cycle s with
    | next u => exact ih u
    | fault r => rfl
    | refused r => rfl

end

/-- Settles O45: no part of a clock reads these lines, and neither does the choice of the number of clocks of a step. -/
theorem unsampledLinesHaveNoEffect : Obligations.UnsampledLinesHaveNoEffect := by
  unfold Obligations.UnsampledLinesHaveNoEffect
  intro l s
  have hclocks : stepClocks (withUnsampled l s) = stepClocks s := rfl
  rw [step_eq_cycles, step_eq_cycles s, hclocks, cycles_withUnsampled]

end Sys2Proof.Machine

/-!
SUPPORT. What an instruction writes of the registers and of memory, said once of all instructions (spec/10_state.md R23, R29,
R30, R32 to R34), and the bits and addresses of the state (R25, R28).
-/

namespace Sys2Proof.Machine

/-! ### Bits of `P` and addresses -/

/-- Settles O8: the byte of `P` gives its flags back, and each flag of a byte is the bit at its position. -/
theorem statusBits : Obligations.StatusBits := by
  unfold Obligations.StatusBits
  intro p
  have hback := Status.ofByte_toByte p
  exact ⟨congrArg Status.n hback, congrArg Status.v hback, congrArg Status.m hback, congrArg Status.x hback,
    congrArg Status.d hback, congrArg Status.i hback, congrArg Status.z hback, congrArg Status.c hback, hback⟩

/-- Settles O52: a code address adds in its 16-bit offset, a data address in all 24 bits. -/
theorem addressArithmetic : Obligations.AddressArithmetic := by
  unfold Obligations.AddressArithmetic
  intro a
  have hoff : (offOf (incOffset a)).toNat = ((offOf a).toNat + 1) % 2 ^ 16 := by
    rw [offOf_incOffset]; exact BitVec.toNat_add _ _
  exact ⟨bankOf_incOffset a, hoff, BitVec.toNat_add a 1, by decide, by decide, by decide⟩

/-! ### The writers of the registers -/

/-- What the instruction `i` wrote of the registers `r`, the `PC` apart: the registers and flags named in each case, and
the opcodes that can be in it. -/
inductive RegsWritten (i : Instr) (r : Regs) : Regs → Prop
  | pcOnly (pc : Long) : RegsWritten i r { r with pc := pc }
  | carry (pc : Long) (c : Bool) (hi : opcodeByte i ∈ [0x18, 0x38]) :
      RegsWritten i r { r with pc := pc, p := { r.p with c := c } }
  | exchange (pc : Long) (x y : Word) (e m n c : Bool) (hi : opcodeByte i = 0xFB) :
      RegsWritten i r { r with pc := pc, x := x, y := y, epE := e, p := { r.p with m := m, x := n, c := c } }
  | clear (pc : Long) (p : Status) (hi : opcodeByte i = 0xC2) : RegsWritten i r { r with pc := pc, p := p }
  | set (pc : Long) (x y : Word) (p : Status) (hi : opcodeByte i = 0xE2) :
      RegsWritten i r { r with pc := pc, x := x, y := y, p := p }
  | add (pc : Long) (a : Word) (z c : Bool) (hi : opcodeByte i = 0x69) :
      RegsWritten i r { r with pc := pc, a := a, p := { r.p with z := z, c := c } }
  | loadA (pc : Long) (a : Word) (n z : Bool) (hi : opcodeByte i = 0xA9) :
      RegsWritten i r { r with pc := pc, a := a, p := { r.p with n := n, z := z } }
  | indexX (pc : Long) (x : Word) (n z : Bool) (hi : opcodeByte i ∈ [0xA2, 0xE8, 0xCA, 0xAA]) :
      RegsWritten i r { r with pc := pc, x := x, p := { r.p with n := n, z := z } }
  | indexY (pc : Long) (y : Word) (n z : Bool) (hi : opcodeByte i ∈ [0xA0, 0xC8, 0x88]) :
      RegsWritten i r { r with pc := pc, y := y, p := { r.p with n := n, z := z } }

section
variable {i : Instr} {r : Regs}

/-- An index result writes N and Z alone of the flags (R230). -/
theorem indexResult_status (p : Status) (old : Word) (r8 : Byte) (r16 : Word) :
    ∃ n z, (indexResult p old r8 r16).2 = { p with n := n, z := z } := by
  unfold indexResult
  split
  · exact ⟨_, _, rfl⟩
  · exact ⟨_, _, rfl⟩

theorem RegsWritten.putX (k : Nat) (r8 : Byte) (r16 : Word) (hi : opcodeByte i ∈ [0xA2, 0xE8, 0xCA, 0xAA]) :
    RegsWritten i r ((r.advance k).putX r8 r16) := by
  obtain ⟨n, z, hp⟩ := indexResult_status r.p r.x r8 r16
  have h := RegsWritten.indexX (r := r) (codeAddr r.pc k) (indexResult r.p r.x r8 r16).1 n z hi
  rw [← hp] at h
  exact h

theorem RegsWritten.putY (k : Nat) (r8 : Byte) (r16 : Word) (hi : opcodeByte i ∈ [0xA0, 0xC8, 0x88]) :
    RegsWritten i r ((r.advance k).putY r8 r16) := by
  obtain ⟨n, z, hp⟩ := indexResult_status r.p r.y r8 r16
  have h := RegsWritten.indexY (r := r) (codeAddr r.pc k) (indexResult r.p r.y r8 r16).1 n z hi
  rw [← hp] at h
  exact h

theorem RegsWritten.exchangeCarry (hi : opcodeByte i = 0xFB) :
    RegsWritten i r (exchangeCarry (r.advance 1)) := by
  cases hc : (r.advance 1).p.c
  · rw [exchangeCarry_of_carry_false hc]; exact .exchange _ _ _ _ _ _ _ hi
  · rw [exchangeCarry_of_carry_true hc]; exact .exchange _ _ _ _ _ _ _ hi

theorem RegsWritten.setBits (mask : Byte) (hi : opcodeByte i = 0xE2) :
    RegsWritten i r (setBits mask (r.advance 2)) := by
  obtain ⟨q, -, heq⟩ := setBits_eq mask (r.advance 2)
  rw [heq]
  exact .set _ _ _ _ hi

/-- What an instruction on registers alone writes. -/
theorem RegsWritten.of_regsAfter {corner : Bool} {r' : Regs} (h : regsAfter corner i r = some r') :
    RegsWritten i r r' := by
  cases i
  case clc => cases h; exact .carry _ _ (by decide)
  case sec => cases h; exact .carry _ _ (by decide)
  case xce => cases h; exact .exchangeCarry rfl
  case rep mask => cases h; exact .clear _ _ rfl
  case sep mask => cases h; exact .setBits _ rfl
  case adcImm imm => cases imm <;> cases h <;> exact .add _ _ _ _ rfl
  case ldaImm imm => cases imm <;> cases h <;> exact .loadA _ _ _ _ rfl
  case ldxImm imm => cases imm <;> cases h <;> exact .indexX _ _ _ _ (by simp [opcodeByte])
  case ldyImm imm => cases imm <;> cases h <;> exact .indexY _ _ _ _ (by simp [opcodeByte])
  case jmpAbs w => cases h; exact .pcOnly _
  case jmpAbsLong l => cases h; exact .pcOnly _
  case inx => cases h; exact .putX _ _ _ (by decide)
  case iny => cases h; exact .putY _ _ _ (by decide)
  case dex => cases h; exact .putX _ _ _ (by decide)
  case dey => cases h; exact .putY _ _ _ (by decide)
  case tax => cases h; exact .putX _ _ _ (by decide)
  case nop => cases h; exact .pcOnly _
  all_goals cases h

variable {s t : State}

/-- What an instruction writes of the registers. -/
theorem exec_regsWritten (h : exec i s = .next t) : RegsWritten i s.regs t.regs := by
  cases exec_ran h with
  | closed tl th r es fits hx hr => exact .of_regsAfter hr
  | exchanged tl th es hx => subst hx; exact .exchangeCarry rfl
  | stored w out es hw => exact .pcOnly _
  | held es hh => exact .pcOnly _

/-- STA alone writes memory. -/
theorem exec_devices (h : exec i s = .next t) : t.devices = s.devices ∨ opcodeByte i = 0x8D := by
  cases exec_ran h with
  | closed => exact .inl rfl
  | exchanged => exact .inl rfl
  | stored w out es hw => subst hw; exact .inr rfl
  | held => exact .inl rfl

/-- The registers other than the `PC` and `P`, case by case. -/
theorem RegsWritten.writers_of_registers {r' : Regs} (h : RegsWritten i r r') :
    (r'.a ≠ r.a → opcodeByte i ∈ [0x69, 0xA9]) ∧
    (r'.x ≠ r.x → opcodeByte i ∈ [0xA2, 0xE8, 0xCA, 0xAA, 0xFB, 0xE2]) ∧
    (r'.y ≠ r.y → opcodeByte i ∈ [0xA0, 0xC8, 0x88, 0xFB, 0xE2]) ∧
    (r'.epE ≠ r.epE → opcodeByte i = 0xFB) ∧
    r'.epB = r.epB ∧ r'.d = r.d ∧ r'.sp = r.sp ∧ r'.dbr = r.dbr := by
  cases h with
  | pcOnly => simp
  | carry => simp
  | exchange _ _ _ _ _ _ _ hi => simp [hi]
  | clear => simp
  | set _ _ _ _ hi => simp [hi]
  | add _ _ _ _ hi => simp [hi]
  | loadA _ _ _ _ hi => simp [hi]
  | indexX _ _ _ _ hi => simpa using fun _ => List.mem_append_left [0xFB, 0xE2] hi
  | indexY _ _ _ _ hi => simpa using fun _ => List.mem_append_left [0xFB, 0xE2] hi

/-- The flags, case by case. -/
theorem RegsWritten.writers_of_flags {r' : Regs} (h : RegsWritten i r r') :
    (r'.p.n ≠ r.p.n → opcodeByte i ∈ [0xA9, 0xA2, 0xA0, 0xE8, 0xC8, 0xCA, 0x88, 0xAA, 0xC2, 0xE2]) ∧
    (r'.p.v ≠ r.p.v → opcodeByte i ∈ [0xC2, 0xE2]) ∧
    (r'.p.m ≠ r.p.m → opcodeByte i ∈ [0xC2, 0xE2, 0xFB]) ∧
    (r'.p.x ≠ r.p.x → opcodeByte i ∈ [0xC2, 0xE2, 0xFB]) ∧
    (r'.p.d ≠ r.p.d → opcodeByte i ∈ [0xC2, 0xE2]) ∧
    (r'.p.i ≠ r.p.i → opcodeByte i ∈ [0xC2, 0xE2]) ∧
    (r'.p.z ≠ r.p.z → opcodeByte i ∈ [0x69, 0xA9, 0xA2, 0xA0, 0xE8, 0xC8, 0xCA, 0x88, 0xAA, 0xC2, 0xE2]) ∧
    (r'.p.c ≠ r.p.c → opcodeByte i ∈ [0x69, 0x18, 0x38, 0xFB, 0xC2, 0xE2]) := by
  have hindex : ∀ op : Byte, op ∈ [0xA2, 0xE8, 0xCA, 0xAA] ∨ op ∈ [0xA0, 0xC8, 0x88] →
      op ∈ [0xA9, 0xA2, 0xA0, 0xE8, 0xC8, 0xCA, 0x88, 0xAA, 0xC2, 0xE2] := by decide
  cases h with
  | pcOnly => simp
  | carry _ _ hi => simpa using fun _ => List.mem_cons_of_mem 0x69 (List.mem_append_left [0xFB, 0xC2, 0xE2] hi)
  | exchange _ _ _ _ _ _ _ hi => simp [hi]
  | clear _ _ hi => simp [hi]
  | set _ _ _ _ hi => simp [hi]
  | add _ _ _ _ hi => simp [hi]
  | loadA _ _ _ _ hi => simp [hi]
  | indexX _ _ _ _ hi =>
    have hn := hindex _ (.inl hi)
    exact ⟨fun _ => hn, by simp, by simp, by simp, by simp, by simp, fun _ => List.mem_cons_of_mem _ hn, by simp⟩
  | indexY _ _ _ _ hi =>
    have hn := hindex _ (.inr hi)
    exact ⟨fun _ => hn, by simp, by simp, by simp, by simp, by simp, fun _ => List.mem_cons_of_mem _ hn, by simp⟩

end

/-- Settles O31: in each case of what an instruction writes, its opcode is among the writers; memory is written by STA
alone. -/
theorem onlyWritersOfRegisters : Obligations.OnlyWritersOfRegisters := by
  unfold Obligations.OnlyWritersOfRegisters
  intro i s t h
  obtain ⟨ha, hx, hy, he, hb, hd, hsp, hdbr⟩ := (exec_regsWritten h).writers_of_registers
  exact ⟨ha, hx, hy, he, hb, hd, hsp, hdbr, (exec_devices h).resolve_left⟩

/-- Settles O32: in each case of what an instruction writes, its opcode is among the writers of each flag it changes. -/
theorem onlyWritersOfFlags : Obligations.OnlyWritersOfFlags := by
  unfold Obligations.OnlyWritersOfFlags
  exact fun i s t h => (exec_regsWritten h).writers_of_flags

end Sys2Proof.Machine

/-!
SUPPORT. The flags no instruction reads (spec/10_state.md R29): every instruction, run on registers whose N, V, D, I and Z
are forgotten, does to the rest what it does without.
-/

namespace Sys2Proof.Machine

/-- The flags with those that no instruction reads set to a fixed value. -/
def Status.forgetUnread (p : Status) : Status := { p with n := false, v := false, d := false, i := false, z := false }

/-- The registers with the flags that no instruction reads set to a fixed value. -/
def Regs.forgetUnread (r : Regs) : Regs := { r with p := r.p.forgetUnread }

@[simp] theorem forgetUnreadFlags_params (s : State) : (forgetUnreadFlags s).params = s.params := rfl

/-- An operation on registers whose result, the unread flags apart, does not depend on the unread flags. -/
def FlagBlind (f : Regs → Regs) : Prop := ∀ r, (f r.forgetUnread).forgetUnread = (f r).forgetUnread

/-! ### The operations -/

section
variable (p : Status) (mask : Byte)

/-- REP's mask acts on each bit of `P` alone (R28, R173). -/
theorem Status.clearMask_eq : p.clearMask mask =
    ⟨p.n && !mask.getLsbD 7, p.v && !mask.getLsbD 6, p.m && !mask.getLsbD 5, p.x && !mask.getLsbD 4,
      p.d && !mask.getLsbD 3, p.i && !mask.getLsbD 2, p.z && !mask.getLsbD 1, p.c && !mask.getLsbD 0⟩ := by
  obtain ⟨hn, hv, hm, hx, hd, hi, hz, hc, -⟩ := statusBits p
  simp only [Status.clearMask, Status.ofByte, BitVec.getLsbD_and, BitVec.getLsbD_not, hn, hv, hm, hx, hd, hi, hz, hc]
  rfl

/-- SEP's mask acts on each bit of `P` alone (R28, R174). -/
theorem Status.setMask_eq : p.setMask mask =
    ⟨p.n || mask.getLsbD 7, p.v || mask.getLsbD 6, p.m || mask.getLsbD 5, p.x || mask.getLsbD 4,
      p.d || mask.getLsbD 3, p.i || mask.getLsbD 2, p.z || mask.getLsbD 1, p.c || mask.getLsbD 0⟩ := by
  obtain ⟨hn, hv, hm, hx, hd, hi, hz, hc, -⟩ := statusBits p
  simp only [Status.setMask, Status.ofByte, BitVec.getLsbD_or, hn, hv, hm, hx, hd, hi, hz, hc]

theorem Status.clearMask_forgetUnread :
    (p.forgetUnread.clearMask mask).forgetUnread = (p.clearMask mask).forgetUnread := by
  rw [Status.clearMask_eq, Status.clearMask_eq]; rfl

theorem Status.setMask_forgetUnread :
    (p.forgetUnread.setMask mask).forgetUnread = (p.setMask mask).forgetUnread := by
  rw [Status.setMask_eq, Status.setMask_eq]; rfl

end

/-- Forcing the width flags in emulation mode touches no unread flag (R31). -/
theorem Status.forceNarrow_forgetUnread (e : Bool) {p q : Status} (h : q.forgetUnread = p.forgetUnread) :
    (if e then q.forceNarrow else q).forgetUnread = (if e then p.forceNarrow else p).forgetUnread := by
  cases e
  · exact h
  · exact congrArg Status.forceNarrow h

theorem clearBits_flagBlind (mask : Byte) : FlagBlind (clearBits mask) := by
  intro r
  have hp := Status.forceNarrow_forgetUnread r.epE (Status.clearMask_forgetUnread r.p mask)
  exact congrArg (fun p => ({ r with p := p } : Regs)) hp

theorem setBits_flagBlind (mask : Byte) : FlagBlind (setBits mask) := by
  intro r
  obtain ⟨q, hq, heq⟩ := setBits_eq mask r
  obtain ⟨q', hq', heq'⟩ := setBits_eq mask r.forgetUnread
  have hp : q'.forgetUnread = q.forgetUnread := by
    rw [hq, hq']
    exact Status.forceNarrow_forgetUnread r.epE (Status.setMask_forgetUnread r.p mask)
  have hx : q'.forgetUnread.x = q.forgetUnread.x := congrArg Status.x hp
  change q'.x = q.x at hx
  rw [heq, heq', hx]
  exact congrArg (fun p => ({ r with
    p := p, x := if q.x then mkWord 0x00 r.xl else r.x, y := if q.x then mkWord 0x00 r.yl else r.y } : Regs)) hp

theorem exchangeCarry_flagBlind : FlagBlind exchangeCarry := by
  intro r
  cases hc : r.p.c
  · rw [exchangeCarry_of_carry_false hc, exchangeCarry_of_carry_false (show r.forgetUnread.p.c = false from hc)]; rfl
  · rw [exchangeCarry_of_carry_true hc, exchangeCarry_of_carry_true (show r.forgetUnread.p.c = true from hc)]; rfl

/-- An index result is as wide as X says, and writes N and Z alone of the flags (R230). -/
theorem indexResult_forgetUnread (p : Status) (old : Word) (r8 : Byte) (r16 : Word) :
    (indexResult p.forgetUnread old r8 r16).1 = (indexResult p old r8 r16).1 ∧
    (indexResult p.forgetUnread old r8 r16).2.forgetUnread = (indexResult p old r8 r16).2.forgetUnread := by
  obtain ⟨n, v, m, x, d, i, z, c⟩ := p
  cases x
  · exact ⟨rfl, rfl⟩
  · exact ⟨rfl, rfl⟩

theorem putX_forgetUnread (r : Regs) (r8 : Byte) (r16 : Word) :
    (r.forgetUnread.putX r8 r16).forgetUnread = (r.putX r8 r16).forgetUnread := by
  obtain ⟨hx, hp⟩ := indexResult_forgetUnread r.p r.x r8 r16
  exact congrArg₂ (fun x p => ({ r with x := x, p := p } : Regs)) hx hp

theorem putY_forgetUnread (r : Regs) (r8 : Byte) (r16 : Word) :
    (r.forgetUnread.putY r8 r16).forgetUnread = (r.putY r8 r16).forgetUnread := by
  obtain ⟨hy, hp⟩ := indexResult_forgetUnread r.p r.y r8 r16
  exact congrArg₂ (fun y p => ({ r with y := y, p := p } : Regs)) hy hp

/-! ### The patterns -/

/-- A meaning whose outcome, the unread flags apart, does not depend on the unread flags. -/
def FlagBlindMeaning (f : State → Result) : Prop :=
  ∀ s, mapNext forgetUnreadFlags (f (forgetUnreadFlags s)) = mapNext forgetUnreadFlags (f s)

theorem FlagBlindMeaning.next {f : State → State}
    (h : ∀ s, forgetUnreadFlags (f (forgetUnreadFlags s)) = forgetUnreadFlags (f s)) :
    FlagBlindMeaning fun s => .next (f s) := fun s => congrArg Host.Outcome.next (h s)

/-- Which handlers are present does not depend on the flags. -/
theorem FlagBlindMeaning.withHandler {op : Byte} {f : State → Result} (h : FlagBlindMeaning f) :
    FlagBlindMeaning (withHandler op f) := by
  intro s
  unfold Machine.withHandler
  rw [forgetUnreadFlags_params]
  split
  · exact h s
  · rfl

theorem readEvents_forgetUnread (s : State) (k : Nat) : readEvents (forgetUnreadFlags s) k = readEvents s k := by
  induction k with
  | zero => rfl
  | succ k ih => exact congrArg (readDiag s.devices (codeAddr s.regs.pc (k + 1)) ++ ·) ih

/-- To forget the unread flags of a closed state is to forget those of its registers. -/
theorem forgetUnreadFlags_closedState (s : State) (op tl th : Byte) (r : Regs) (es : List Diag) :
    forgetUnreadFlags (closedState s op tl th r es) = closedState s op tl th r.forgetUnread es := rfl

/-- A closed state takes of the flags at the start only what its registers do. -/
theorem closedState_forgetUnread (s : State) (op tl th : Byte) {r r' : Regs} (k : Nat)
    (hr : r'.forgetUnread = r.forgetUnread) :
    forgetUnreadFlags (closedState (forgetUnreadFlags s) op tl th r' (readEvents (forgetUnreadFlags s) k)) =
      forgetUnreadFlags (closedState s op tl th r (readEvents s k)) := by
  rw [readEvents_forgetUnread, forgetUnreadFlags_closedState, forgetUnreadFlags_closedState, hr]
  rfl

theorem implied2_flagBlind (op : Byte) {f : Regs → Regs} (hf : FlagBlind f) :
    FlagBlindMeaning fun s => .next (implied2 op (onRegs f) s) := .next fun s => by
  rw [implied2_spec, implied2_spec]
  exact closedState_forgetUnread s op _ _ 1 (hf (s.regs.advance 1))

theorem immp3_flagBlind (op mask : Byte) {f : Byte → Regs → Regs} (hf : ∀ m, FlagBlind (f m)) :
    FlagBlindMeaning fun s => .next (immp3 op (fun m => onRegs (f m)) mask s) := .next fun s => by
  rw [immp3_spec, immp3_spec]
  exact closedState_forgetUnread s op _ _ 2 (hf mask (s.regs.advance 2))

theorem xce_flagBlind (op : Byte) : FlagBlindMeaning fun s => .next (implied2 op opXce s) := .next fun s => by
  have hclosed := closedState_forgetUnread s op s.seq.tl s.seq.th 1 (exchangeCarry_flagBlind (s.regs.advance 1))
  have hspec := implied2_driveE_spec op exchangeCarry
  unfold opXce
  rw [hspec, hspec]
  exact congrArg driveE hclosed

/-- An immediate instruction, its width flag being none of the unread flags. -/
theorem immediate_forgetUnread (op : Byte) (narrow : Bool) {f8 : Byte → Regs → Regs} {f16 : Word → Regs → Regs}
    (h8 : ∀ v, FlagBlind (f8 v)) (h16 : ∀ v, FlagBlind (f16 v)) (imm : Imm) (s : State) :
    mapNext forgetUnreadFlags
        (immediate op narrow (fun v => onRegs (f8 v)) (fun v => onRegs (f16 v)) imm (forgetUnreadFlags s)) =
      mapNext forgetUnreadFlags (immediate op narrow (fun v => onRegs (f8 v)) (fun v => onRegs (f16 v)) imm s) := by
  cases narrow with
  | true =>
    cases imm with
    | b8 v =>
      simp only [immediate, mapNext, imm8_spec]
      exact congrArg Host.Outcome.next (closedState_forgetUnread s op _ _ 1 (h8 v (s.regs.advance 2)))
    | w16 v => rfl
  | false =>
    cases imm with
    | b8 v => rfl
    | w16 v =>
      simp only [immediate, mapNext, imm16_spec]
      exact congrArg Host.Outcome.next (closedState_forgetUnread s op _ _ 2 (h16 v (s.regs.advance 3)))

theorem jmpAbs_flagBlind (op : Byte) (w : Word) : FlagBlindMeaning fun s => .next (jmpAbs op w s) := .next fun s => by
  rw [jmpAbs_spec, jmpAbs_spec]
  exact closedState_forgetUnread s op _ _ 2 rfl

theorem jmpLong_flagBlind (op : Byte) (l : Long) : FlagBlindMeaning fun s => .next (jmpLong op l s) := .next fun s => by
  rw [jmpLong_spec, jmpLong_spec]
  exact closedState_forgetUnread s op _ _ 3 rfl

theorem absWrite_flagBlind (op : Byte) (w : Word) : FlagBlindMeaning fun s => .next (absWrite op w s) := .next fun s => by
  cases hm : s.regs.p.m
  · rw [absWrite16_spec op w s hm, absWrite16_spec op w (forgetUnreadFlags s) hm, readEvents_forgetUnread]; rfl
  · rw [absWrite8_spec op w s hm, absWrite8_spec op w (forgetUnreadFlags s) hm, readEvents_forgetUnread]; rfl

theorem halt3_flagBlind (op : Byte) : FlagBlindMeaning fun s => .next (halt3 op s) := .next fun s => by
  rw [halt3_spec, halt3_spec, readEvents_forgetUnread]
  rfl

/-- No instruction reads the unread flags. -/
theorem exec_flagBlind (i : Instr) : FlagBlindMeaning (exec i) := by
  cases i
  case clc => exact (implied2_flagBlind 0x18 fun _ => rfl).withHandler
  case sec => exact (implied2_flagBlind 0x38 fun _ => rfl).withHandler
  case inx => exact (implied2_flagBlind 0xE8 fun r => putX_forgetUnread r (r.xl + 1) (r.x + 1)).withHandler
  case iny => exact (implied2_flagBlind 0xC8 fun r => putY_forgetUnread r (r.yl + 1) (r.y + 1)).withHandler
  case dex => exact (implied2_flagBlind 0xCA fun r => putX_forgetUnread r (r.xl - 1) (r.x - 1)).withHandler
  case dey => exact (implied2_flagBlind 0x88 fun r => putY_forgetUnread r (r.yl - 1) (r.y - 1)).withHandler
  case tax => exact (implied2_flagBlind 0xAA fun r => putX_forgetUnread r r.al r.a).withHandler
  case nop => exact (implied2_flagBlind (f := id) 0xEA fun _ => rfl).withHandler
  case xce => exact (xce_flagBlind 0xFB).withHandler
  case rep mask => exact (immp3_flagBlind 0xC2 mask clearBits_flagBlind).withHandler
  case sep mask => exact (immp3_flagBlind 0xE2 mask setBits_flagBlind).withHandler
  case adcImm imm =>
    exact FlagBlindMeaning.withHandler fun s =>
      immediate_forgetUnread 0x69 s.regs.p.m (fun _ _ => rfl) (fun _ _ => rfl) imm s
  case ldaImm imm =>
    exact FlagBlindMeaning.withHandler fun s =>
      immediate_forgetUnread 0xA9 s.regs.p.m (fun _ _ => rfl) (fun _ _ => rfl) imm s
  case ldxImm imm =>
    exact FlagBlindMeaning.withHandler fun s =>
      immediate_forgetUnread 0xA2 s.regs.p.x (fun _ _ => rfl) (fun _ _ => rfl) imm s
  case ldyImm imm =>
    exact FlagBlindMeaning.withHandler fun s =>
      immediate_forgetUnread 0xA0 s.regs.p.x (fun _ _ => rfl) (fun _ _ => rfl) imm s
  case staAbs w => exact (absWrite_flagBlind 0x8D w).withHandler
  case jmpAbs w => exact (jmpAbs_flagBlind 0x4C w).withHandler
  case jmpAbsLong l => exact (jmpLong_flagBlind 0x5C l).withHandler
  case stp => exact (halt3_flagBlind 0xDB).withHandler
  case wai => exact (halt3_flagBlind 0xCB).withHandler
  all_goals exact fun _ => rfl

/-- Settles O33: each instruction's pattern passes on what its operation makes of the registers, and no operation reads
N, V, D, I or Z. -/
theorem unreadFlagsHaveNoEffect : Obligations.UnreadFlagsHaveNoEffect := by
  unfold Obligations.UnreadFlagsHaveNoEffect
  exact exec_flagBlind

end Sys2Proof.Machine

/-!
SUPPORT. The device that serves an address (spec/20_memory.md R62 to R67): the first that claims a read decides what the
bus reads, and a write replaces one byte of it where it is a RAM, and nothing of it where it is a ROM. The bus tick is a
read or a write of these (R71, R73).
-/

namespace Sys2Proof.Machine

/-- The first device that claims a read of the address, in registration order (R62, R64). -/
def firstReader (ds : List Device) (a : Long) : Option Device := ds.find? fun d => d.validRead a

section
variable {ds before after : List Device} {d : Device} {a x : Long}

theorem firstReader_append (hbefore : ∀ e ∈ before, e.validRead a = false) (hd : d.validRead a = true) :
    firstReader (before ++ d :: after) a = some d :=
  List.find?_eq_some_iff_append.mpr ⟨hd, before, after, rfl, by simpa using hbefore⟩

theorem firstReader_eq_none (h : ∀ e ∈ ds, e.validRead a = false) : firstReader ds a = none :=
  List.find?_eq_none.mpr (by simpa using h)

theorem firstReader_cons_claims (h : d.validRead a = true) : firstReader (d :: ds) a = some d :=
  List.find?_cons_of_pos h

theorem firstReader_cons_passes (h : d.validRead a = false) : firstReader (d :: ds) a = firstReader ds a :=
  List.find?_cons_of_neg (by simp [h])

/-- A device of some kind is first claimant of the reads of an address. -/
theorem firstReader_kind_iff {k : DeviceKind} :
    (∃ d, firstReader ds a = some d ∧ d.kind = k) ↔
      ∃ before d after, ds = before ++ d :: after ∧ d.kind = k ∧ d.validRead a = true ∧
        ∀ e ∈ before, e.validRead a = false := by
  constructor
  · rintro ⟨d, hd, hk⟩
    obtain ⟨hread, before, after, rfl, hbefore⟩ := List.find?_eq_some_iff_append.mp hd
    exact ⟨before, d, after, rfl, hk, hread, by simpa using hbefore⟩
  · rintro ⟨before, d, after, rfl, hk, hread, hbefore⟩
    exact ⟨d, firstReader_append hbefore hread, hk⟩

theorem ramServes_iff : RamServes ds a ↔ ∃ d, firstReader ds a = some d ∧ d.kind = .ram := firstReader_kind_iff.symm

theorem romServes_iff : RomServes ds a ↔ ∃ d, firstReader ds a = some d ∧ d.kind = .rom := firstReader_kind_iff.symm

theorem firstReader_mem (h : firstReader ds a = some d) : d ∈ ds := List.mem_of_find?_eq_some h

/-- The bus reads from the first claimant (R64). -/
theorem claimedRead_eq_firstReader (ds : List Device) (a : Long) :
    claimedRead ds a = (firstReader ds a).map fun d => d.readByte a := by
  induction ds with
  | nil => rfl
  | cons d ds ih =>
    cases hd : d.validRead a
    · rw [firstReader_cons_passes hd, ← ih]; simp [hd]
    · rw [firstReader_cons_claims hd]; simp [hd]

theorem busRead_of_firstReader (u : Byte) (h : firstReader ds a = some d) : busRead u ds a = d.readByte a := by
  simp [busRead, claimedRead_eq_firstReader, h]

/-- A claimed read raises no event (R64, R271). -/
theorem readDiag_of_firstReader (h : firstReader ds a = some d) : readDiag ds a = [] := by
  simp [readDiag, claimedRead_eq_firstReader, h]

theorem busRead_of_unclaimed (u : Byte) (h : firstReader ds a = none) : busRead u ds a = u := by
  simp [busRead, claimedRead_eq_firstReader, h]

theorem readDiag_of_unclaimed (h : firstReader ds a = none) : readDiag ds a = [.unclaimedRead a] := by
  simp [readDiag, claimedRead_eq_firstReader, h]

/-! ### Writes -/

/-- A RAM takes the writes of its range (R63). -/
theorem Device.validWrite_of_ram (hk : d.kind = .ram) (a : Long) : d.validWrite a = d.validRead a := by
  simp [Device.validWrite, hk]

/-- A ROM takes no write (R67). -/
theorem Device.validWrite_of_rom (hk : d.kind = .rom) (a : Long) : d.validWrite a = false := by
  simp [Device.validWrite, hk]

/-- A device that does not claim the read does not claim the write (R63). -/
theorem Device.validWrite_of_not_validRead (h : d.validRead a = false) : d.validWrite a = false :=
  Bool.eq_false_iff.mpr fun hw => Bool.eq_false_iff.mp h (Device.validRead_of_validWrite hw).2

theorem Device.validWrite_eq_false_iff :
    d.validWrite a = false ↔ d.kind = .rom ∨ ¬ (d.start ≤ a ∧ a ≤ d.stop) := by
  rw [← Device.validRead_iff]
  cases hk : d.kind
  · simp [Device.validWrite_of_ram hk]
  · simp [Device.validWrite_of_rom hk]

/-- A write goes past every device that does not take it (R62, R65). -/
theorem claimedWrite_append (hbefore : ∀ e ∈ before, e.validWrite a = false) (ds : List Device) (b : Byte) :
    claimedWrite (before ++ ds) a b = (claimedWrite ds a b).map (before ++ ·) := by
  induction before with
  | nil => simp
  | cons e before ih =>
    obtain ⟨he, hrest⟩ := List.forall_mem_cons.mp hbefore
    simp [claimedWrite, he, ih hrest, Function.comp_def]

/-- The first device that takes the write is the one device written (R65). -/
theorem claimedWrite_first (hbefore : ∀ e ∈ before, e.validWrite a = false) (hd : d.validWrite a = true) (b : Byte) :
    claimedWrite (before ++ d :: after) a b = some (before ++ d.putByte a b :: after) := by
  simp [claimedWrite_append hbefore, claimedWrite, hd]

theorem claimedWrite_eq_none (h : ∀ e ∈ ds, e.validWrite a = false) (b : Byte) : claimedWrite ds a b = none := by
  simpa [claimedWrite] using claimedWrite_append h [] b

/-- A write into the RAM that serves an address replaces one byte of it, and it still serves the address (R66). -/
theorem firstReader_busWrite_of_ram (h : firstReader ds a = some d) (hk : d.kind = .ram) (b : Byte) :
    firstReader (busWrite ds a b) a = some (d.putByte a b) := by
  induction ds with
  | nil => cases h
  | cons e ds ih =>
    rw [busWrite_cons]
    cases he : e.validRead a
    case false =>
      rw [firstReader_cons_passes he] at h
      rw [if_neg (by simp [Device.validWrite_of_not_validRead he]), firstReader_cons_passes he, ih h]
    case true =>
      obtain rfl : e = d := Option.some.inj ((firstReader_cons_claims he).symm.trans h)
      rw [if_pos ((Device.validWrite_of_ram hk a).trans he)]
      exact firstReader_cons_claims ((Device.putByte_validRead e a b a).trans he)

/-- No write changes a ROM that serves an address, nor puts a device before it there (R67). -/
theorem firstReader_busWrite_of_rom (h : firstReader ds x = some d) (hk : d.kind = .rom) (a : Long) (b : Byte) :
    firstReader (busWrite ds a b) x = some d := by
  induction ds with
  | nil => cases h
  | cons e ds ih =>
    rw [busWrite_cons]
    cases he : e.validRead x
    case false =>
      rw [firstReader_cons_passes he] at h
      split
      · exact (firstReader_cons_passes ((Device.putByte_validRead e a b x).trans he)).trans h
      · exact (firstReader_cons_passes he).trans (ih h)
    case true =>
      obtain rfl : e = d := Option.some.inj ((firstReader_cons_claims he).symm.trans h)
      rw [if_neg (by simp [Device.validWrite_of_rom hk]), firstReader_cons_claims he]

/-- A write leaves what the bus reads at every other address (R65). -/
theorem busRead_busWrite_other (u : Byte) (h : ds.all Device.wf = true) (hne : x ≠ a) (b : Byte) :
    busRead u (busWrite ds a b) x = busRead u ds x := by
  rw [busRead, claimedRead_busWrite_other h hne, busRead]

end

/-! ### The obligations on the bus -/

/-- Settles O47: the bus reads from the first claimant, and where there is none gives the sentinel. -/
theorem firstClaimantServesRead : Obligations.FirstClaimantServesRead := by
  unfold Obligations.FirstClaimantServesRead
  refine ⟨rfl, fun u before after d a hstart hstop hbefore => ?_, fun u ds a hnone => ?_⟩
  · have hfirst : firstReader (before ++ d :: after) a = some d :=
      firstReader_append hbefore ((Device.validRead_iff d a).mpr ⟨hstart, hstop⟩)
    exact ⟨busRead_of_firstReader u hfirst, readDiag_of_firstReader hfirst⟩
  · have hfirst : firstReader ds a = none := firstReader_eq_none hnone
    exact ⟨busRead_of_unclaimed u hfirst, readDiag_of_unclaimed hfirst⟩

/-- Settles O48: a ROM and a device elsewhere both leave a write to the devices behind them. -/
theorem firstClaimantTakesWrite : Obligations.FirstClaimantTakesWrite := by
  unfold Obligations.FirstClaimantTakesWrite
  refine ⟨fun before after d a b hk hstart hstop hbefore => ?_, fun ds a b hnone => ?_⟩
  · have hd : d.validWrite a = true :=
      (Device.validWrite_of_ram hk a).trans ((Device.validRead_iff d a).mpr ⟨hstart, hstop⟩)
    have hwrite := claimedWrite_first (after := after)
      (fun e he => Device.validWrite_eq_false_iff.mpr (hbefore e he)) hd b
    simp [busWrite, writeDiag, hwrite, Device.putByte]
  · have hwrite := claimedWrite_eq_none (fun e he => Device.validWrite_eq_false_iff.mpr (hnone e he)) b
    simp [busWrite, writeDiag, hwrite]

/-- Settles O49: the RAM that serves the address is the device written. -/
theorem ramReadsBack : Obligations.RamReadsBack := by
  unfold Obligations.RamReadsBack
  refine fun u ds a b hwf => ⟨fun hram => ?_, fun x hne => busRead_busWrite_other u hwf hne b⟩
  obtain ⟨d, hd, hk⟩ := ramServes_iff.mp hram
  have hd' : firstReader (busWrite ds a b) a = some (d.putByte a b) := firstReader_busWrite_of_ram hd hk b
  have hdwf : d.wf = true := List.all_eq_true.mp hwf d (firstReader_mem hd)
  exact ⟨(busRead_of_firstReader u hd').trans (Device.readByte_putByte_same hdwf a b),
    ramServes_iff.mpr ⟨_, hd', hk⟩⟩

/-- Settles O50: the ROM that serves the address is, unchanged, its first claimant after the write. -/
theorem romNeverChanges : Obligations.RomNeverChanges := by
  unfold Obligations.RomNeverChanges
  intro u ds a x b _ hrom
  obtain ⟨d, hd, hk⟩ := romServes_iff.mp hrom
  have hd' : firstReader (busWrite ds a b) x = some d := firstReader_busWrite_of_rom hd hk a b
  exact ⟨(busRead_of_firstReader u hd').trans (busRead_of_firstReader u hd).symm, romServes_iff.mpr ⟨d, hd', hk⟩⟩

/-- Settles O51: the tick is the read or the write that RWB names. -/
theorem busTickByDirection : Obligations.BusTickByDirection := by
  unfold Obligations.BusTickByDirection
  refine fun s => ⟨busTick_regs s, fun hread => ?_, fun hwrite => ?_⟩
  · rw [busTick_of_read s hread]; exact ⟨rfl, rfl, rfl⟩
  · rw [busTick_of_write s hwrite]; exact ⟨rfl, rfl, rfl⟩

end Sys2Proof.Machine

/-!
SUPPORT. Reset inside an instruction (spec/40_cycle_engine.md R132): the first clock that finds RESB low counts it and
changes nothing else, so the bus tick repeats the cycle the lines still show (spec/70_reset_and_hazards.md R300).
-/

namespace Sys2Proof.Machine

/-- Cycles one after another. -/
theorem cycles_add_of_next {m : Nat} {s t : State} (n : Nat) (h : cycles m s = .next t) :
    cycles (m + n) s = cycles n t := by
  induction m generalizing s with
  | zero => cases h; rw [Nat.zero_add]
  | succ m ih =>
    rw [cycles] at h
    split at h
    next u hu => rw [Nat.succ_add, cycles_succ_of_next _ hu, ih h]
    next => cases h
    next => cases h

/-- The engine runs a run of rows from its beginning, so it runs every first part. -/
theorem EngineRuns.of_append {rows rows' : List (State → State)} {s : State} (h : EngineRuns (rows ++ rows') s) :
    EngineRuns rows s := by
  induction rows generalizing s with
  | nil => trivial
  | cons row rows ih =>
    obtain ⟨hclock, hrest⟩ := h
    exact ⟨hclock, ih hrest⟩

/-- The first clock with RESB low changes only `rlc` (R300). -/
theorem resetHold_of_first {s : State} (h0 : s.seq.rlc = 0) : resetHold s = { s with seq := { s.seq with rlc := 1 } } := by
  simp [resetHold, h0]

/-- The cycle whose clock finds RESB low (R131 case 1). -/
theorem cycle_of_low {s : State} (hr : s.pins.resb = false) :
    cycle s = .next (hostMove (busTick (resetHold (setPhi2 true s)))) := by
  have hclock : clock s = .next (resetHold (setPhi2 true s)) := if_pos hr
  rw [cycle, hclock]

/-- The first clock with RESB low after a write cycle writes the same byte again (R71, R300). -/
theorem cycle_of_first_low_repeats_write {s : State} (hr : s.pins.resb = false) (h0 : s.seq.rlc = 0)
    (hw : s.pins.ctl.rwb = false) :
    ∃ t, cycle s = .next t ∧ t.params = s.params ∧ t.seq.rlc = 1 ∧
      t.devices = busWrite s.devices s.pins.addressOut s.seq.dataOut := by
  refine ⟨_, cycle_of_low hr, ?_⟩
  rw [resetHold_of_first (s := setPhi2 true s) h0, busTick_of_write _ (by simpa using hw)]
  simp

/-! ### The store -/

/-- The bytes from which the instruction at a boundary is decoded as a store (R101, R204). -/
theorem bytes_of_fetchInstr_staAbs {s : State} {w : Word} (h : fetchInstr s = .staAbs w) :
    s.seq.dataIn = 0x8D ∧ loByte w = s.busByte (codeAddr s.regs.pc 1) ∧ hiByte w = s.busByte (codeAddr s.regs.pc 2) := by
  obtain ⟨-, -, hoperand⟩ := decodeWindow_sound s.regs.p.m s.regs.p.x s.seq.dataIn (s.busByte (codeAddr s.regs.pc 1))
    (s.busByte (codeAddr s.regs.pc 2)) (s.busByte (codeAddr s.regs.pc 3))
  rw [← fetchInstr, h] at hoperand
  have hop := opcodeByte_fetchInstr s
  rw [h] at hop
  exact ⟨hop.symm, by simpa [operandBytes, wordBytes, List.prefix_iff_eq_take] using hoperand⟩

/-- The rows of ABSWRITE up to the cycle that writes the low byte (R146). -/
def storeOpening (op : Byte) (w : Word) : List (State → State) :=
  [fun t => openOperand (latchIr op t), operandLow (loByte w), storeLow (hiByte w)]

/-- What the machine shows after the cycle that wrote the low byte of the store `w` that began in `s` (R137, R146). -/
structure LowByteOut (w : Word) (s u : State) : Prop where
  rlc : u.seq.rlc = s.seq.rlc
  rwb : u.pins.ctl.rwb = false
  addressOut : u.pins.addressOut = absoluteEa s.regs.dbr w
  dataOut : u.seq.dataOut = s.regs.al
  params : u.params = s.params
  devices : u.devices = busWrite s.devices (absoluteEa s.regs.dbr w) s.regs.al

theorem storeOpening_lowByteOut (op : Byte) (w : Word) (s : State) : LowByteOut w s (runClocks (storeOpening op w) s) := by
  simp only [storeOpening, runClocks, openOperand_row, operandLow_row, storeLow_row, mkWord_hi_lo]
  exact ⟨rfl, rfl, rfl, rfl, rfl, rfl⟩

/-- The host's side shows nothing of the store. -/
theorem LowByteOut.onHost {w : Word} {s u : State} (h : LowByteOut w s u) (r : Bool) (l : List Bool) :
    LowByteOut w s (onHost r l u) :=
  ⟨h.rlc, h.rwb, h.addressOut, h.dataOut, h.params, h.devices⟩

/-- Three clocks from the boundary at a store run its rows up to the low byte's write, and RESB is then at the third level
the host scheduled (R72, R146). -/
theorem cycles_storeOpening {s : State} {w : Word} {b : Bool} {more : List Bool} (hb : atBoundary s = true)
    (hp : s.params.implements 0x8D = true) (hf : fetchInstr s = .staAbs w)
    (hl : s.hostResb = true :: true :: b :: more) :
    ∃ u, cycles 3 s = .next u ∧ u.pins.resb = b ∧ LowByteOut w s u := by
  obtain ⟨hresb, hrlc, hic⟩ := atBoundary_iff.mp hb
  obtain ⟨hop, hlo, hhi⟩ := bytes_of_fetchInstr_staAbs hf
  have hat : AtOpcode 0x8D absWriteRows s := ⟨hrlc, hic, hop, handlerOf_some.mpr ⟨hp, rfl⟩⟩
  have hruns : EngineRuns (storeOpening 0x8D w) s := EngineRuns.of_append (engineRuns_absWrite hat hlo hhi)
  have hcycles := cycles_of_engineRuns hruns (r := s.pins.resb) (l := s.hostResb) (by rw [hresb, hl]; rfl)
  rw [onHost_self, hresb, hl] at hcycles
  exact ⟨_, hcycles, rfl, (storeOpening_lowByteOut 0x8D w s).onHost b more⟩

/-- Settles O58: after three clocks the lines show the low byte's write, and the fourth, which finds RESB low, repeats
it. -/
theorem resetTearsWideStore : Obligations.ResetTearsWideStore := by
  unfold Obligations.ResetTearsWideStore
  intro s w more hdevices hp hb _ hf hl
  obtain ⟨-, hrlc, -⟩ := atBoundary_iff.mp hb
  obtain ⟨u, hopening, hresb, hout⟩ := cycles_storeOpening hb hp hf hl
  obtain ⟨t, hlow, hparams, ht, hdev⟩ := cycle_of_first_low_repeats_write hresb (hout.rlc.trans hrlc) hout.rwb
  rw [hout.addressOut, hout.dataOut, hout.devices] at hdev
  refine ⟨t, (cycles_add_of_next 1 hopening).trans ((cycles_one u).trans hlow), ht, hdev, fun a hne => ?_⟩
  rw [State.busByte, hdev, hparams, hout.params, busRead_busWrite_other _ (busWrite_wf hdevices _ _) hne,
    busRead_busWrite_other _ hdevices hne, State.busByte]

end Sys2Proof.Machine

/-!
SUPPORT. The decoder and the encoder undo each other (spec/30_encoding.md R100 to R103): the three bytes the decoder looks
at begin with the operand bytes exactly when the bytes that are there do. The opcode table gives the length of every
instruction, and names the opcodes that are dispatched (R104, R106).
-/

namespace Sys2Proof.Laws.DecodesBack

/-- The decoder gives every instruction back: the laws of the constructors, in their order. -/
theorem every_instr (i : Instr) : Statement i := Instr.casesOn i
  brk oraDirXInd cop oraStk tsbDir oraDir aslDir oraDirIndLong oraImm tsbAbs oraAbs aslAbs oraAbsLong bpl oraDirIndY
  oraDirInd oraStkIndY trbDir oraDirX aslDirX oraDirIndLongY oraAbsY trbAbs oraAbsX aslAbsX oraAbsLongX jsrAbs
  andDirXInd jslAbsLong andStk bitDir andDir rolDir andDirIndLong andImm bitAbs andAbs rolAbs andAbsLong bmi
  andDirIndY andDirInd andStkIndY bitDirX andDirX rolDirX andDirIndLongY andAbsY bitAbsX andAbsX rolAbsX andAbsLongX
  eorDirXInd wdm eorStk mvp eorDir lsrDir eorDirIndLong eorImm jmpAbs eorAbs lsrAbs eorAbsLong bvc eorDirIndY
  eorDirInd eorStkIndY mvn eorDirX lsrDirX eorDirIndLongY eorAbsY jmpAbsLong eorAbsX lsrAbsX eorAbsLongX adcDirXInd
  per adcStk stzDir adcDir rorDir adcDirIndLong adcImm jmpAbsInd adcAbs rorAbs adcAbsLong bvs adcDirIndY adcDirInd
  adcStkIndY stzDirX adcDirX rorDirX adcDirIndLongY adcAbsY jmpAbsXInd adcAbsX rorAbsX adcAbsLongX bra staDirXInd brl
  staStk styDir staDir stxDir staDirIndLong bitImm styAbs staAbs stxAbs staAbsLong bcc staDirIndY staDirInd staStkIndY
  styDirX staDirX stxDirY staDirIndLongY staAbsY stzAbs staAbsX stzAbsX staAbsLongX ldyImm ldaDirXInd ldxImm ldaStk
  ldyDir ldaDir ldxDir ldaDirIndLong ldaImm ldyAbs ldaAbs ldxAbs ldaAbsLong bcs ldaDirIndY ldaDirInd ldaStkIndY
  ldyDirX ldaDirX ldxDirY ldaDirIndLongY ldaAbsY ldyAbsX ldaAbsX ldxAbsY ldaAbsLongX cpyImm cmpDirXInd rep cmpStk
  cpyDir cmpDir decDir cmpDirIndLong cmpImm cpyAbs cmpAbs decAbs cmpAbsLong bne cmpDirIndY cmpDirInd cmpStkIndY pei
  cmpDirX decDirX cmpDirIndLongY cmpAbsY jmpAbsIndLong cmpAbsX decAbsX cmpAbsLongX cpxImm sbcDirXInd sep sbcStk cpxDir
  sbcDir incDir sbcDirIndLong sbcImm cpxAbs sbcAbs incAbs sbcAbsLong beq sbcDirIndY sbcDirInd sbcStkIndY pea sbcDirX
  incDirX sbcDirIndLongY sbcAbsY jsrAbsXInd sbcAbsX incAbsX sbcAbsLongX php aslAcc phd clc incAcc tcs plp rolAcc pld
  sec decAcc tsc rti pha lsrAcc phk cli phy tcd rts pla rorAcc rtl sei ply tdc dey txa phb tya txs txy tay tax plb clv
  tsx tyx iny dex wai cld phx stp inx nop xba sed plx xce

end Sys2Proof.Laws.DecodesBack

namespace Sys2Proof
open Machine

/-! ### The bytes the decoder looks at -/

/-- The three bytes after the opcode byte that the decoder looks at, 0 past the end of the list. -/
def window (bs : List Byte) : List Byte := [bs.getD 0 0, bs.getD 1 0, bs.getD 2 0]

theorem window_eq_take : ∀ bs : List Byte, window bs = (bs ++ [0, 0, 0]).take 3
  | [] | [_] | [_, _] | _ :: _ :: _ :: _ => rfl

/-- The window is padded at its end only: at most three bytes that are there begin it when they begin the list. -/
theorem prefix_window_iff {l bs : List Byte} (h3 : l.length ≤ 3) (hl : l.length ≤ bs.length) :
    l <+: window bs ↔ l <+: bs := by
  rw [window_eq_take, List.prefix_take_iff]
  exact ⟨fun h => List.prefix_of_prefix_length_le h.1 (List.prefix_append _ _) hl,
    fun h => ⟨h.trans (List.prefix_append _ _), h3⟩⟩

theorem immBytes_length_le (imm : Imm) : (immBytes imm).length ≤ 2 := by
  cases imm <;> simp [immBytes]

/-- No instruction has more than four bytes (R101). -/
theorem operandBytes_length_le (i : Instr) : (operandBytes i).length ≤ 3 := by
  cases i
  case oraImm imm | andImm imm | eorImm imm | adcImm imm | bitImm imm | ldyImm imm | ldxImm imm | ldaImm imm | cpyImm imm
      | cmpImm imm | cpxImm imm | sbcImm imm => exact (immBytes_length_le imm).trans (by decide)
  all_goals exact Nat.le_of_ble_eq_true rfl

section
variable {m x : Bool} {i : Instr} {op : Byte} {bs rest : List Byte}

/-! ### Decoding, case by case -/

/-- The instruction that an opcode byte begins, with the bytes of a list after it. -/
def instrAt (m x : Bool) (op : Byte) (bs : List Byte) : Instr :=
  decodeWindow m x op (bs.getD 0 0) (bs.getD 1 0) (bs.getD 2 0)

theorem instrAt_wellFormed : WellFormed m x (instrAt m x op bs) = true := (decodeWindow_sound m x op _ _ _).1

theorem opcodeByte_instrAt : opcodeByte (instrAt m x op bs) = op :=
  (decodeWindow_sound m x op _ _ _).2.1.trans (by rw [BitVec.ofNat_toNat, BitVec.setWidth_eq])

theorem operandBytes_instrAt : operandBytes (instrAt m x op bs) <+: window bs := (decodeWindow_sound m x op _ _ _).2.2

theorem decode_of_short (h : bs.length < (operandBytes (instrAt m x op bs)).length) :
    decode m x (op :: bs) = .error (.truncated op) := if_pos h

theorem decode_of_complete (h : (operandBytes (instrAt m x op bs)).length ≤ bs.length) :
    decode m x (op :: bs) =
      .ok (instrAt m x op bs, bs.drop (operandBytes (instrAt m x op bs)).length) := if_neg (Nat.not_lt.mpr h)

/-- An instruction that is well-formed is the one at its opcode byte and operand bytes. -/
theorem instrAt_operandBytes (h : WellFormed m x i = true) :
    instrAt m x (opcodeByte i) (operandBytes i ++ rest) = i :=
  Laws.DecodesBack.every_instr i m x _ _ _ h
    ((prefix_window_iff (operandBytes_length_le i) (by simp)).mpr (List.prefix_append _ _))

theorem decode_encode (h : WellFormed m x i = true) : decode m x (encode i ++ rest) = .ok (i, rest) := by
  have hi : instrAt m x (opcodeByte i) (operandBytes i ++ rest) = i := instrAt_operandBytes h
  have hdecode := decode_of_complete (m := m) (x := x) (op := opcodeByte i) (bs := operandBytes i ++ rest) (by simp [hi])
  rwa [hi, List.drop_left] at hdecode

/-- What decodes is what the well-formed instructions encode to. -/
theorem decode_eq_ok_iff : decode m x bs = .ok (i, rest) ↔ WellFormed m x i = true ∧ encode i ++ rest = bs := by
  refine ⟨fun h => ?_, fun ⟨hwf, he⟩ => he ▸ decode_encode hwf⟩
  cases bs with
  | nil => cases h
  | cons op bs =>
    obtain hshort | hlen := Nat.lt_or_ge bs.length (operandBytes (instrAt m x op bs)).length
    · cases (decode_of_short hshort).symm.trans h
    · cases (decode_of_complete hlen).symm.trans h
      have hprefix : operandBytes (instrAt m x op bs) <+: bs :=
        (prefix_window_iff (operandBytes_length_le _) hlen).mp operandBytes_instrAt
      refine ⟨instrAt_wellFormed, ?_⟩
      rw [encode, opcodeByte_instrAt, List.cons_append, ← List.prefix_append_drop hprefix]

end

/-- Settles O1: the operand bytes begin the bytes after the opcode, so the decoder gives the instruction back. -/
theorem decodeOfEncode : Obligations.DecodeOfEncode := fun _ _ _ _ => decode_encode

/-- Settles O2: the bytes the decoder takes are the operand bytes of what it answers. -/
theorem encodeOfDecode : Obligations.EncodeOfDecode := fun _ _ _ _ _ => decode_eq_ok_iff.mp

/-- Settles O5: each word is the encoding of its instruction, which is well-formed. -/
theorem specWordsDecode : Obligations.SpecWordsDecode := by
  unfold Obligations.SpecWordsDecode
  simp only [decode_eq_ok_iff]
  decide

/-! ### The opcode table -/

theorem opcodes_append_row {n : Nat} {rows row : List Config.OpcodeRow}
    (h : rows.map (·.opcode) = (List.range n).map (BitVec.ofNat 8))
    (hrow : row.map (·.opcode) = (List.range 16).map fun k => BitVec.ofNat 8 (n + k)) :
    (rows ++ row).map (·.opcode) = (List.range (n + 16)).map (BitVec.ofNat 8) := by
  rw [List.map_append, h, hrow, List.range_add, List.map_append, List.map_map]
  rfl

/-- The table is in opcode order: each of its sixteen rows goes on where the one before ends (R104, R105). -/
theorem opcodeTable_opcodes : Config.opcodeTable.map (·.opcode) = (List.range 256).map (BitVec.ofNat 8) := by
  rw [Config.opcodeTable]
  iterate 15 refine opcodes_append_row ?_ rfl
  rfl

/-- Every byte is an opcode (R100, R108). -/
theorem exists_row (op : Byte) : ∃ row ∈ Config.opcodeTable, row.opcode = op := by
  have hop : op ∈ Config.opcodeTable.map (·.opcode) := by
    rw [opcodeTable_opcodes]
    exact List.mem_map.mpr ⟨op.toNat, List.mem_range.mpr op.isLt, by simp⟩
  exact List.mem_map.mp hop

/-- The decoder agrees with the lengths of the table (R103). -/
theorem length_instrAt (m x : Bool) (bs : List Byte) : ∀ row ∈ Config.opcodeTable,
    (encode (instrAt m x row.opcode bs)).length = row.bytes + wideImmediate row.mode m x := by
  have hall : (Config.opcodeTable.all fun row =>
      (encode (instrAt m x row.opcode bs)).length == row.bytes + wideImmediate row.mode m x) = true := by
    simp only [Config.opcodeTable, List.all_append, Bool.and_eq_true]
    cases m <;> cases x <;> and_intros <;> rfl
  simpa using hall

/-- Settles O3: whatever the opcode, the decoder needs no more than three bytes after it. -/
theorem noIllegalOpcode : Obligations.NoIllegalOpcode := by
  unfold Obligations.NoIllegalOpcode
  intro m x op rest
  have h3 : (operandBytes (instrAt m x op rest)).length ≤ 3 := operandBytes_length_le _
  refine ⟨fun hrest => ⟨_, _, decode_of_complete (h3.trans hrest), opcodeByte_instrAt⟩, fun e he => ?_, exists_row op⟩
  obtain hshort | hlen := Nat.lt_or_ge rest.length (operandBytes (instrAt m x op rest)).length
  · cases (decode_of_short hshort).symm.trans he
    exact ⟨rfl, hshort.trans_le h3⟩
  · cases (decode_of_complete hlen).symm.trans he

/-- Settles O4: a well-formed instruction is what its opcode decodes to, whose length is the table's. -/
theorem lengthByOpcodeAndFlag : Obligations.LengthByOpcodeAndFlag := by
  unfold Obligations.LengthByOpcodeAndFlag
  refine ⟨fun m x i hwf => ?_, fun x => decode_eq_ok_iff.mpr ⟨rfl, rfl⟩, fun x => decode_eq_ok_iff.mpr ⟨rfl, rfl⟩⟩
  obtain ⟨row, hrow, hop⟩ := exists_row (opcodeByte i)
  have hi : instrAt m x row.opcode (operandBytes i ++ []) = i := by rw [hop, instrAt_operandBytes hwf]
  refine ⟨row, hrow, hop, ?_⟩
  have hlen := length_instrAt m x (operandBytes i ++ []) row hrow
  rwa [hi] at hlen

/-! ### The opcodes that are dispatched -/

/-- The spec defines the handlers of the twenty opcodes (R106). -/
theorem rowsOf_isSome_iff (corner : Bool) (op : Byte) : (rowsOf corner op).isSome = true ↔ op ∈ Config.implemented := by
  refine ⟨fun h => ?_, fun h => ?_⟩
  · by_contra hmem
    rw [rowsOf_eq_none corner hmem] at h
    cases h
  · have hall : (Config.implemented.all fun op => (rowsOf corner op).isSome) = true := rfl
    exact List.all_eq_true.mp hall op h

theorem handlerOf_isSome_iff (p : Config.Params) (op : Byte) :
    (handlerOf p op).isSome = true ↔ p.implements op = true ∧ op ∈ Config.implemented := by
  rw [← rowsOf_isSome_iff p.adcCarryCorner, handlerOf]
  cases p.implements op <;> simp

/-- Settles O6: the table is compared entry by entry; the engine dispatches where the spec defines rows and `IMPLEMENTED`
has the opcode. -/
theorem opcodeTableShape : Obligations.OpcodeTableShape := by
  have hhandlers : (Config.opcodeTable.filter (·.handler)).map (·.opcode) = Config.implemented := rfl
  exact ⟨opcodeTable_opcodes, hhandlers, hhandlers, rfl, handlerOf_isSome_iff⟩

/-- Every instruction is refused where `IMPLEMENTED` leaves its opcode out: the twenty have no handler there, and the others
nowhere (R7, R108). -/
theorem exec_of_not_implemented {i : Instr} {s : State} (h : s.params.implements (opcodeByte i) = false) :
    exec i s = .refused (.unimplementedOpcode (opcodeByte i) s.regs.pc) := by
  cases i
  case clc | sec | xce | rep | sep | adcImm | ldaImm | ldxImm | ldyImm | staAbs | jmpAbs | jmpAbsLong | inx | iny | dex | dey
      | tax | nop | stp | wai =>
    simp only [exec_clc_eq, exec_sec_eq, exec_xce_eq, exec_rep_eq, exec_sep_eq, exec_adcImm_eq, exec_ldaImm_eq,
      exec_ldxImm_eq, exec_ldyImm_eq, exec_staAbs_eq, exec_jmpAbs_eq, exec_jmpAbsLong_eq, exec_inx_eq, exec_iny_eq,
      exec_dex_eq, exec_dey_eq, exec_tax_eq, exec_nop_eq, exec_stp_eq, exec_wai_eq]
    exact withHandler_of_not h
  all_goals rfl

/-- A cycle is refused by its clock only (R72). -/
theorem clock_of_cycle_refused {s : State} {r : Refusal} (h : cycle s = .refused r) : clock s = .refused r := by
  rw [cycle] at h
  split at h
  case h_3 hclock => exact hclock.trans h
  all_goals cases h

/-- Settles O28: an opcode that is not dispatched has no handler in the engine, and its instruction is a placeholder or has
its handler left out. -/
theorem placeholdersRefused : Obligations.PlaceholdersRefused := by
  unfold Obligations.PlaceholdersRefused
  refine ⟨rfl, fun i s h => h.elim exec_of_not_implemented (exec_of_not_listed s), fun s hresb hrlc hic h => ?_⟩
  have hnull : handlerOf s.params s.seq.dataIn = none := by
    rw [← Option.not_isSome_iff_eq_none, handlerOf_isSome_iff]
    rintro ⟨himpl, hmem⟩
    obtain hnot | hnot := h
    · exact absurd (himpl.symm.trans hnot) nofun
    · exact hnot hmem
  exact clock_of_cycle_refused (cycle_of_null_handler hresb hrlc hic hnull)

end Sys2Proof

/-!
SUPPORT. The step and the reset counter (spec/40_cycle_engine.md R130 to R134): what decodes from the bytes at `PC` is what
the boundary fetches, and a clock that finds RESB low does no more than `ResetHold()` (spec/70_reset_and_hazards.md R300).
-/

namespace Sys2Proof
open Machine

/-! ### The step -/

/-- What decodes is the instruction that the first byte begins. -/
theorem instrAt_of_decode {m x : Bool} {op : Byte} {bs rest : List Byte} {i : Instr}
    (h : decode m x (op :: bs) = .ok (i, rest)) : instrAt m x op bs = i := by
  obtain hshort | hlen := Nat.lt_or_ge bs.length (operandBytes (instrAt m x op bs)).length
  · cases (decode_of_short hshort).symm.trans h
  · cases (decode_of_complete hlen).symm.trans h
    rfl

/-- Where the opcode at `PC` is presented, the boundary fetches what the bytes at `PC` decode to (R26, R131). -/
theorem fetchInstr_of_decode {s : State} {i : Instr} {rest : List Byte} (hop : OpcodePresented s)
    (h : decode s.regs.p.m s.regs.p.x (codeBytes s 4) = .ok (i, rest)) : fetchInstr s = i := by
  obtain ⟨-, -, hdata⟩ := hop
  have hbytes : codeBytes s 4 = s.seq.dataIn :: (List.range 3).map fun k => s.busByte (codeAddr s.regs.pc (k + 1)) := by
    rw [hdata]; rfl
  rw [hbytes] at h
  exact instrAt_of_decode h

/-- Settles O36: the decoded instruction is the fetched one. -/
theorem stepRunsDecodedInstruction : Obligations.StepRunsDecodedInstruction := by
  unfold Obligations.StepRunsDecodedInstruction
  intro s i rest hb hop hdecode hquiet
  obtain rfl := fetchInstr_of_decode hop hdecode
  exact step_of_quiet hb hquiet

/-- Settles O37: the step runs whole instructions under two conditions, and either one failing leaves the cycle. -/
theorem stepIsOneCycleElsewhere : Obligations.StepIsOneCycleElsewhere := by
  unfold Obligations.StepIsOneCycleElsewhere
  rintro s (hb | hquiet)
  · exact if_neg (by simp [hb])
  · rw [step]
    split
    · exact if_neg (by simp [hquiet])
    · rfl

/-! ### The reset counter -/

/-- A low RESB wins over everything (R131 case 1, R132). -/
theorem clock_of_low {s : State} (hresb : s.pins.resb = false) : clock s = .next (resetHold (setPhi2 true s)) :=
  if_pos hresb

@[simp] theorem resetHold_seq (s : State) : (resetHold s).seq = { s.seq with rlc := min (s.seq.rlc + 1) 2 } := by
  unfold resetHold; dsimp only; split <;> rfl
@[simp] theorem resetHold_a (s : State) : (resetHold s).regs.a = s.regs.a := by
  unfold resetHold; dsimp only; split <;> rfl
@[simp] theorem resetHold_addressOut (s : State) : (resetHold s).pins.addressOut = s.pins.addressOut := by
  unfold resetHold; dsimp only; split <;> rfl
@[simp] theorem resetHold_devices (s : State) : (resetHold s).devices = s.devices := by
  unfold resetHold; dsimp only; split <;> rfl

/-- Settles O53: the clock is `ResetHold()`, which counts; the forced state of the later clocks leaves `PC`, `A`, the
address and the devices, and the first clock does not reach it. -/
theorem lowResetCountsFirst : Obligations.LowResetCountsFirst := by
  unfold Obligations.LowResetCountsFirst
  intro s hresb
  exact ⟨_, clock_of_low hresb, resetHold_seq _, resetHold_pc _, resetHold_a _, resetHold_addressOut _,
    resetHold_devices _, fun h0 => resetHold_of_first (s := setPhi2 true s) h0⟩

end Sys2Proof

/-!
SUPPORT. The flag and mode instructions (spec/41_flags_mode.md R170 to R174): what an instruction on registers alone leaves
when it completes, said once with the bus reads it makes (R140 to R145), and what the operations do to the byte of `P`.
-/

namespace Sys2Proof.Machine

/-! ### Completion on registers alone -/

/-- The events of the reads behind the opcode are those of the addresses in order (R64, R76). -/
theorem readEvents_eq_eventsAfterReads (s : State) (k : Nat) :
    readEvents s k = eventsAfterReads s.devices (codeReads s.regs.pc (List.range' 1 k)) s.diag := by
  induction k with
  | zero => rfl
  | succ k ih =>
    rw [readEvents, ih, List.range'_1_concat, Nat.add_comm 1 k]
    simp [eventsAfterReads, codeReads]

/-- The last clock reads the next opcode, after the operand bytes (R136). -/
theorem readDiag_readEvents (s : State) (a : Long) (k : Nat) :
    readDiag s.devices a ++ readEvents s k =
      eventsAfterReads s.devices (codeReads s.regs.pc (List.range' 1 k) ++ [a]) s.diag := by
  rw [readEvents_eq_eventsAfterReads]
  simp [eventsAfterReads]

/-- `exec_closed`, as the completion that the statements speak of: the operand bytes are read, then the next opcode. -/
theorem exec_completes {i : Instr} {s : State} {r : Regs} (hr : regsAfter s.params.adcCarryCorner i s.regs = some r)
    (hx : i ≠ .xce) (hp : s.params.implements (opcodeByte i) = true) (hw : WellFormed s.regs.p.m s.regs.p.x i = true) :
    ∃ t, exec i s = .next t ∧ t.regs = r ∧
      CompletedWithoutStore (opcodeByte i) (latchesAfter i s.seq).1 (latchesAfter i s.seq).2
        (codeReads s.regs.pc (List.range' 1 (readsBeforeLast i)) ++ [r.pc]) s t :=
  ⟨_, exec_closed hr hx hp hw, rfl, closedState_completed _ _ _ _ _ (readDiag_readEvents _ _ _)⟩

/-! ### The byte of `P` -/

section
variable (p : Status) (mask : Byte)

@[simp] theorem Status.toByte_clearMask : (p.clearMask mask).toByte = p.toByte &&& ~~~mask := Status.toByte_ofByte _

@[simp] theorem Status.toByte_setMask : (p.setMask mask).toByte = p.toByte ||| mask := Status.toByte_ofByte _

/-- To force the widths is to set bits 5 and 4 (R28, R31). -/
theorem Status.forceNarrow_eq_setMask : p.forceNarrow = p.setMask 0x30 := by
  rw [Status.setMask_eq]
  simp [Status.forceNarrow]

/-- The widths forced where the mode is emulation, over the byte of `P` (R31). -/
theorem Status.toByte_forceNarrow_if (e : Bool) :
    (if e then p.forceNarrow else p).toByte = p.toByte ||| (if e then 0x30 else 0x00) := by
  cases e
  · exact BitVec.or_zero.symm
  · exact (congrArg Status.toByte p.forceNarrow_eq_setMask).trans (p.toByte_setMask 0x30)

end

/-! ### The exchange of XCE -/

/-- XCE in both directions of the exchange (R172). -/
theorem exchangeCarry_eq (r : Regs) : exchangeCarry r = { r with
    epE := r.p.c
    p := { r.p with c := r.epE, m := r.p.m || r.p.c, x := r.p.x || r.p.c }
    x := if r.p.c then mkWord 0x00 r.xl else r.x
    y := if r.p.c then mkWord 0x00 r.yl else r.y } := by
  cases hc : r.p.c
  · rw [exchangeCarry_of_carry_false hc]; simp
  · rw [exchangeCarry_of_carry_true hc]; simp [Regs.xl, Regs.yl]

/-! ### The obligations -/

/-- Settles O9: both complete on registers alone, with the carry written. -/
theorem carryInstructions : Obligations.CarryInstructions := by
  unfold Obligations.CarryInstructions
  exact ⟨rfl, rfl, fun _ => ⟨rfl, rfl⟩, fun s =>
    ⟨fun hp => exec_completes (i := .clc) rfl nofun hp rfl, fun hp => exec_completes (i := .sec) rfl nofun hp rfl⟩⟩

/-- Settles O10: the carry in decides the mode, and with it the widths and the index high bytes. -/
theorem xceExchanges : Obligations.XceExchanges := by
  unfold Obligations.XceExchanges
  refine ⟨rfl, fun _ => rfl, fun s hp => ?_⟩
  have hexec := exec_xce s hp
  rw [exchangeCarry_eq] at hexec
  exact ⟨_, hexec, rfl, rfl, driveE_closedState_completed _ _ _ _ _ (readDiag_readEvents s _ 1)⟩

/-- Settles O11: the mask acts on the byte of `P`, then emulation mode sets M and X again. -/
theorem repClearsMaskedFlags : Obligations.RepClearsMaskedFlags := by
  unfold Obligations.RepClearsMaskedFlags
  refine ⟨fun _ => rfl, fun _ _ => rfl, fun mask s hp => ?_⟩
  obtain ⟨t, hexec, hregs, hdone⟩ := exec_completes (i := .rep mask) (s := s) rfl nofun hp rfl
  refine ⟨t, hexec, ?_, ?_, hdone⟩
  · rw [hregs]; rfl
  · rw [hregs, ← Status.toByte_clearMask]
    exact Status.toByte_forceNarrow_if _ _

/-- Settles O12: the mask acts on the byte of `P`, then emulation mode sets M and X, and X decides the index high bytes. -/
theorem sepSetsMaskedFlags : Obligations.SepSetsMaskedFlags := by
  unfold Obligations.SepSetsMaskedFlags
  refine ⟨fun _ => rfl, fun _ _ => rfl, fun mask s hp => ?_⟩
  obtain ⟨q, hq, hset⟩ := setBits_eq mask (s.regs.advance 2)
  obtain ⟨t, hexec, hregs, hdone⟩ := exec_completes (i := .sep mask) (congrArg some hset) nofun hp rfl
  refine ⟨t, hexec, ?_, ?_, hdone⟩
  · rw [hregs]; rfl
  · rw [hregs, ← Status.toByte_setMask]
    exact (congrArg Status.toByte hq).trans (Status.toByte_forceNarrow_if _ _)

end Sys2Proof.Machine

/-!
SUPPORT. ADC (spec/42_arithmetic.md R190 to R192): its carry and its `P` on the exact sum, for every width, and the
completion of ADC from every state at the width of `P.M`.
-/

namespace Sys2Proof.Machine

/-! ### The carry and `P` -/

section
variable {w : Nat} {corner c : Bool} {a v : BitVec w}

/-- In the corner of R190 (b) the platform decides the carry. -/
theorem adcCarry_of_corner (hv : v = BitVec.allOnes w) (hc : c = true) : adcCarry corner a v c = corner :=
  if_pos ⟨hv, hc⟩

/-- In the corner the sum carries whatever the accumulator holds. -/
theorem adcSum_carries_of_corner (a : BitVec w) : 2 ^ w ≤ adcSum a (BitVec.allOnes w) true := by
  have hw := Nat.two_pow_pos w
  simp only [adcSum, BitVec.toNat_allOnes, Bool.toNat_true]
  omega

/-- Outside the corner, and in it at the default of the parameter, the carry is the true one (R190). -/
theorem adcCarry_of_true (h : v ≠ BitVec.allOnes w ∨ c = false ∨ corner = true) :
    adcCarry corner a v c = decide (2 ^ w ≤ adcSum a v c) := by
  by_cases hcorner : v = BitVec.allOnes w ∧ c = true
  · obtain ⟨rfl, rfl⟩ := hcorner
    have hdefault : corner = true := by simpa using h
    rw [adcCarry_of_corner rfl rfl, hdefault]
    exact (decide_eq_true (adcSum_carries_of_corner a)).symm
  · exact if_neg hcorner

/-- Where the default decides the corner, only the operand need be known to find the carry (R192). -/
theorem adcCarry_of_default (h : v = BitVec.allOnes w → corner = true) :
    adcCarry corner a v c = decide (2 ^ w ≤ adcSum a v c) :=
  adcCarry_of_true ((em (v = BitVec.allOnes w)).elim (fun hv => .inr (.inr (h hv))) .inl)

/-- The result is 0 just when the sum wraps to 0. -/
theorem adcResult_beq_zero : (adcResult a v c == 0) = decide (adcSum a v c % 2 ^ w = 0) := by
  rw [Bool.beq_eq_decide_eq, adcResult]
  exact decide_eq_decide.mpr (by simp [← BitVec.toNat_inj])

end

theorem Status.adc_eq {w : Nat} (p : Status) (corner : Bool) (a v : BitVec w) : p.adc corner a v =
    { p with c := adcCarry corner a v p.c, z := decide (adcSum a v p.c % 2 ^ w = 0) } := by
  rw [Status.adc, adcResult_beq_zero]

/-! ### Completion at the two widths -/

section
variable {s : State} (hp : s.params.implements 0x69 = true)
include hp

/-- ADC at 8 bits: `AL`, C and Z (R190 `Op8`). -/
theorem exec_adcImm_b8 (v : Byte) (hm : s.regs.p.m = true) : ∃ t, exec (.adcImm (.b8 v)) s = .next t ∧
    t.regs = { s.regs with
      pc := codeAddr s.regs.pc 2
      a := mkWord s.regs.ah (adcResult s.regs.al v s.regs.p.c)
      p := { s.regs.p with
        c := adcCarry s.params.adcCarryCorner s.regs.al v s.regs.p.c
        z := decide (adcSum s.regs.al v s.regs.p.c % 2 ^ 8 = 0) } } ∧
    CompletedImmediate 0x69 (.b8 v) s t := by
  rw [← Status.adc_eq]
  exact exec_completes (i := .adcImm (.b8 v)) rfl nofun hp hm

/-- ADC at 16 bits: `A`, C and Z (R190 `Op16`). -/
theorem exec_adcImm_w16 (v : Word) (hm : s.regs.p.m = false) : ∃ t, exec (.adcImm (.w16 v)) s = .next t ∧
    t.regs = { s.regs with
      pc := codeAddr s.regs.pc 3
      a := adcResult s.regs.a v s.regs.p.c
      p := { s.regs.p with
        c := adcCarry s.params.adcCarryCorner s.regs.a v s.regs.p.c
        z := decide (adcSum s.regs.a v s.regs.p.c % 2 ^ 16 = 0) } } ∧
    CompletedImmediate 0x69 (.w16 v) s t := by
  rw [← Status.adc_eq]
  exact exec_completes (i := .adcImm (.w16 v)) rfl nofun hp (congrArg not hm)

end

/-! ### The obligations -/

/-- Settles O13: the two completions, with the two laws of the carry. -/
theorem adcAddsWithCarry : Obligations.AdcAddsWithCarry := by
  unfold Obligations.AdcAddsWithCarry
  refine ⟨fun _ => rfl, fun _ => rfl, ?clocks, rfl, fun v s hp hm => ?narrow, fun v s hp hm => ?wide⟩
  case clocks =>
    rintro m (v | v) hfits
    · exact (if_pos hfits).symm
    · exact (if_neg (by simpa [Imm.fits] using hfits)).symm
  case narrow =>
    obtain ⟨t, hexec, hregs, hdone⟩ := exec_adcImm_b8 hp v hm
    exact ⟨t, _, hexec, hregs, adcCarry_of_corner, adcCarry_of_true, hdone⟩
  case wide =>
    obtain ⟨t, hexec, hregs, hdone⟩ := exec_adcImm_w16 hp v hm
    exact ⟨t, _, hexec, hregs, adcCarry_of_corner, adcCarry_of_true, hdone⟩

/-- Settles O14: each row is arithmetic on its own three inputs, since the completions read nothing else. -/
theorem adcTable : Obligations.AdcTable := by
  unfold Obligations.AdcTable
  refine fun r => ⟨fun row hrow => ?narrow, fun row hrow => ?wide⟩
  case narrow =>
    obtain ⟨ha, hc, hz⟩ : mkWord (hiByte row.1) (adcResult (loByte row.1) row.2.2.1 row.2.1) = row.2.2.2.1 ∧
        decide (2 ^ 8 ≤ adcSum (loByte row.1) row.2.2.1 row.2.1) = row.2.2.2.2.1 ∧
        decide (adcSum (loByte row.1) row.2.2.1 row.2.1 % 2 ^ 8 = 0) = row.2.2.2.2.2 := by
      revert row
      exact List.forall_iff_forall_mem.mp (by decide)
    intro s hp hcorner hs
    obtain ⟨t, hexec, hregs, -⟩ := exec_adcImm_b8 hp row.2.2.1 (by rw [hs])
    rw [adcCarry_of_default hcorner, hs] at hregs
    refine ⟨t, hexec, ?_, ?_⟩
    · rw [hregs]; exact ha
    · rw [hregs, hs, ← hc, ← hz]; rfl
  case wide =>
    obtain ⟨ha, hc, hz⟩ : adcResult row.1 row.2.2.1 row.2.1 = row.2.2.2.1 ∧
        decide (2 ^ 16 ≤ adcSum row.1 row.2.2.1 row.2.1) = row.2.2.2.2.1 ∧
        decide (adcSum row.1 row.2.2.1 row.2.1 % 2 ^ 16 = 0) = row.2.2.2.2.2 := by
      revert row
      exact List.forall_iff_forall_mem.mp (by decide)
    intro s hp hcorner hs
    obtain ⟨t, hexec, hregs, -⟩ := exec_adcImm_w16 hp row.2.2.1 (by rw [hs])
    rw [adcCarry_of_default hcorner, hs] at hregs
    refine ⟨t, hexec, ?_, ?_⟩
    · rw [hregs]; exact ha
    · rw [hregs, hs, ← hc, ← hz]

end Sys2Proof.Machine

/-!
SUPPORT. The loads and the store (spec/43_load_store.md R201 to R204). The three loads are one operation on three
registers, so that their completion is said once; a store is its cells written in bus order, over the devices, the
diagnostic channel and the bytes of memory.
-/

namespace Sys2Proof.Machine

/-! ### A register written at a width -/

/-- N is the top bit of the judged value, Z says that it is 0 (R191). -/
theorem Status.judged_toNat {w : Nat} (p : Status) (v : BitVec w) :
    p.judged w v.toNat = { p with n := v.getLsbD (w - 1), z := v == 0 } := by
  have hz : decide (v.toNat = 0) = (v == 0) := by
    rw [Bool.beq_eq_decide_eq]
    exact decide_eq_decide.mpr (by simp [← BitVec.toNat_inj])
  rw [Status.judged, BitVec.getLsbD_last, hz]

/-- The 8-bit case: the low byte is written, the high byte stays (R21, R22). -/
theorem writtenAtWidth_b8 (old : Word) (v : Byte) (r16 : Nat) (p : Status) :
    WrittenAtWidth true old (withLow old v) v.toNat r16 p (p.nz8 v) :=
  ⟨hiByte_withLow old v, congrArg BitVec.toNat (loByte_withLow old v), (p.judged_toNat v).symm⟩

/-- The 16-bit case: the whole register is written (R21, R22). -/
theorem writtenAtWidth_w16 (old v : Word) (r8 : Nat) (p : Status) :
    WrittenAtWidth false old v r8 v.toNat p (p.nz16 v) :=
  ⟨rfl, (p.judged_toNat v).symm⟩

/-! ### The loads -/

/-- The clocks of an immediate instruction at the width of its flag (R143, R315). -/
theorem immClocks_of_fits {imm : Imm} {narrow : Bool} (hfits : imm.fits narrow = true) :
    immClocks imm = if narrow then 2 else 3 := by
  cases imm with
  | b8 v => exact (if_pos hfits).symm
  | w16 v => exact (if_neg (by simpa [Imm.fits] using hfits)).symm

/-- A load into the register that `get` reads, and `put` writes with `P`: the immediate goes to it at its width, and the
instruction completes (R143, R201 to R203). -/
theorem load_completes (get : Regs → Word) (put : Regs → Word → Status → Regs) (op : Byte) (s : State)
    (hget : ∀ k, get (s.regs.advance k) = get s.regs) (hpc : ∀ r v q, (put r v q).pc = r.pc) {narrow : Bool} {imm : Imm}
    (hfits : imm.fits narrow = true) :
    ∃ t v q,
      immediate op narrow (fun b => onRegs fun r => put r (withLow (get r) b) (r.p.nz8 b))
        (fun w => onRegs fun r => put r w (r.p.nz16 w)) imm s = .next t ∧
      t.regs = put (s.regs.advance (if narrow then 2 else 3)) v q ∧
      WrittenAtWidth narrow (get s.regs) v (immValue imm) (immValue imm) s.regs.p q ∧
      CompletedImmediate op imm s t := by
  cases imm with
  | b8 b =>
    obtain rfl : narrow = true := hfits
    refine ⟨_, _, _, congrArg Host.Outcome.next (imm8_spec op _ b s), rfl, ?_, closedState_completed _ _ _ _ _ ?_⟩
    · rw [hget]; exact writtenAtWidth_b8 _ b _ _
    · rw [hpc]; exact readDiag_readEvents s _ 1
  | w16 w =>
    obtain rfl : narrow = false := by simpa [Imm.fits] using hfits
    refine ⟨_, _, _, congrArg Host.Outcome.next (imm16_spec op _ w s), rfl, ?_, closedState_completed _ _ _ _ _ ?_⟩
    · exact writtenAtWidth_w16 _ w _ _
    · rw [hpc]; exact readDiag_readEvents s _ 2

/-- Settles O15: LDA is the load of `A` at the width of `P.M`. -/
theorem ldaLoadsImmediate : Obligations.LdaLoadsImmediate := by
  unfold Obligations.LdaLoadsImmediate
  refine ⟨fun _ => rfl, fun _ => rfl, fun _ _ => immClocks_of_fits, fun imm s hp hfits => ?_⟩
  rw [exec_ldaImm_eq, withHandler_of hp]
  exact load_completes Regs.a (fun r v q => { r with a := v, p := q }) 0xA9 s (fun _ => rfl) (fun _ _ _ => rfl) hfits

/-- Settles O16: LDX is the load of `X` at the width of `P.X`. -/
theorem ldxLoadsImmediate : Obligations.LdxLoadsImmediate := by
  unfold Obligations.LdxLoadsImmediate
  refine ⟨fun _ => rfl, fun _ => rfl, fun _ _ _ => immClocks_of_fits, fun imm s hp hfits => ?_⟩
  rw [exec_ldxImm_eq, withHandler_of hp]
  exact load_completes Regs.x (fun r v q => { r with x := v, p := q }) 0xA2 s (fun _ => rfl) (fun _ _ _ => rfl) hfits

/-- Settles O17: LDY is the load of `Y` at the width of `P.X`. -/
theorem ldyLoadsImmediate : Obligations.LdyLoadsImmediate := by
  unfold Obligations.LdyLoadsImmediate
  refine ⟨fun _ => rfl, fun _ => rfl, fun _ _ _ => immClocks_of_fits, fun imm s hp hfits => ?_⟩
  rw [exec_ldyImm_eq, withHandler_of hp]
  exact load_completes Regs.y (fun r v q => { r with y := v, p := q }) 0xA0 s (fun _ => rfl) (fun _ _ _ => rfl) hfits

/-! ### The store and the diagnostic channel -/

/-- The diagnostic channel after the bytes of a store went out in order: an event for each that no device takes (R65,
R271). -/
def storedEvents : List Device → List (Long × Byte) → List Diag → List Diag
  | _, [], es => es
  | ds, c :: cells, es => storedEvents (busWrite ds c.1 c.2) cells (writeDiag ds c.1 c.2 ++ es)

/-- The cell of an 8-bit store (R204). -/
theorem storedBytes_narrow {r : Regs} (w : Word) (hm : r.p.m = true) :
    storedBytes r w = [(absoluteEa r.dbr w, r.al)] := if_pos hm

/-- The cells of a 16-bit store, low byte first (R74, R204). -/
theorem storedBytes_wide {r : Regs} (w : Word) (hm : r.p.m = false) :
    storedBytes r w = [(absoluteEa r.dbr w, r.al), (nextDataAddr (absoluteEa r.dbr w), r.ah)] :=
  if_neg (by simp [hm])

/-- STA reads its two operand bytes and puts its cells out (R146, R204). -/
theorem exec_staAbs_stored (w : Word) {s : State} (hp : s.params.implements 0x8D = true) :
    exec (.staAbs w) s = .next (storedState s 0x8D (loByte w) (hiByte w) (if s.regs.p.m then s.regs.al else s.regs.ah)
      (storedDevices s.devices (storedBytes s.regs w))
      (storedEvents s.devices (storedBytes s.regs w)
        (eventsAfterReads s.devices (codeReads s.regs.pc [1, 2]) s.diag))) := by
  have hreads : readEvents s 2 = eventsAfterReads s.devices (codeReads s.regs.pc [1, 2]) s.diag :=
    readEvents_eq_eventsAfterReads s 2
  rw [exec_staAbs_eq, withHandler_of hp, ← hreads]
  cases hm : s.regs.p.m
  case true => rw [absWrite8_spec 0x8D w s hm, storedBytes_narrow w hm]; rfl
  case false => rw [absWrite16_spec 0x8D w s hm, storedBytes_wide w hm]; rfl

/-- A write that no device claims is an event (R65). -/
theorem unclaimedWrite_mem_writeDiag {ds : List Device} {a : Long} {b : Byte} (h : claimedWrite ds a b = none) :
    Diag.unclaimedWrite a ∈ writeDiag ds a b := by
  simp [writeDiag, h]

/-- Settles O18: at each width the cells of the store are written out, and the rest is the completed store's. -/
theorem staStoresAccumulator : Obligations.StaStoresAccumulator := by
  unfold Obligations.StaStoresAccumulator
  refine ⟨fun _ => rfl, fun _ _ => rfl, fun w s hp => ⟨_, exec_staAbs_stored w hp, rfl,
    ⟨fun hm => ?narrow, fun hm => ?wide⟩, rfl, ⟨rfl, rfl, rfl, rfl⟩,
    ⟨rfl, rfl, rfl, rfl, rfl, rfl, rfl, rfl, rfl, rfl⟩, rfl, rfl⟩⟩
  case narrow =>
    rw [storedBytes_narrow w hm]
    exact ⟨rfl, rfl, fun hnone =>
      ⟨List.mem_append_right _ (List.mem_append_left _ (unclaimedWrite_mem_writeDiag hnone)), busWrite_of_none hnone⟩⟩
  case wide =>
    rw [storedBytes_wide w hm]
    exact ⟨rfl, rfl,
      fun hnone => List.mem_append_right _ (List.mem_append_right _
        (List.mem_append_left _ (unclaimedWrite_mem_writeDiag hnone))),
      fun hnone => List.mem_append_right _ (List.mem_append_left _ (unclaimedWrite_mem_writeDiag hnone))⟩

/-! ### The store and memory -/

section
variable {ds : List Device} {a x : Long} {b : Byte}

/-- A write leaves the kind of the device that serves an address (R63, R65). -/
theorem firstReader_busWrite_kind :
    (firstReader (busWrite ds a b) x).map Device.kind = (firstReader ds x).map Device.kind := by
  induction ds with
  | nil => rfl
  | cons d ds ih =>
    rw [busWrite_cons]
    cases hd : d.validRead x
    case true =>
      rw [firstReader_cons_claims hd]
      split
      · rw [firstReader_cons_claims ((d.putByte_validRead a b x).trans hd)]; rfl
      · rw [firstReader_cons_claims hd]
    case false =>
      rw [firstReader_cons_passes hd]
      split
      · rw [firstReader_cons_passes ((d.putByte_validRead a b x).trans hd)]
      · rw [firstReader_cons_passes hd, ih]

/-- An address that a RAM serves is served by a RAM after every write (R66). -/
theorem RamServes.after_write (h : RamServes ds x) : RamServes (busWrite ds a b) x := by
  simpa only [ramServes_iff, ← Option.map_eq_some_iff, firstReader_busWrite_kind] using h

/-- Every address but those of the cells reads as before (R65). -/
theorem busRead_storedDevices_other (u : Byte) {cells : List (Long × Byte)} (hwf : ds.all Device.wf = true)
    (hx : x ∉ cells.map (·.1)) : busRead u (storedDevices ds cells) x = busRead u ds x := by
  induction cells generalizing ds with
  | nil => rfl
  | cons c cells ih =>
    obtain ⟨hne, hrest⟩ := List.ne_and_not_mem_of_not_mem_cons hx
    exact (ih (busWrite_wf hwf c.1 c.2) hrest).trans (busRead_busWrite_other u hwf hne c.2)

/-- A cell at an address that a RAM serves reads back, where no other cell has that address (R66). -/
theorem busRead_storedDevices_cell (u : Byte) {cells : List (Long × Byte)} {c : Long × Byte}
    (hwf : ds.all Device.wf = true) (hdistinct : (cells.map (·.1)).Nodup) (hc : c ∈ cells) (hram : RamServes ds c.1) :
    busRead u (storedDevices ds cells) c.1 = c.2 := by
  induction cells generalizing ds with
  | nil => cases hc
  | cons c' cells ih =>
    obtain ⟨hfirst, hrest⟩ := List.nodup_cons.mp hdistinct
    have hwf' := busWrite_wf hwf c'.1 c'.2
    cases hc with
    | head => exact (busRead_storedDevices_other u hwf' hfirst).trans ((ramReadsBack u ds c.1 c.2 hwf).1 hram).1
    | tail _ hc => exact ih hwf' hrest hc hram.after_write

end

/-- The two bytes of a 16-bit store are at different addresses (R76). -/
theorem storedBytes_addresses_nodup (r : Regs) (w : Word) : ((storedBytes r w).map (·.1)).Nodup := by
  cases hm : r.p.m
  case true => simp [storedBytes_narrow w hm]
  case false => simp [storedBytes_wide w hm, nextDataAddr]

/-- Settles O19: the cells of the store are what memory changes, and they are at different addresses. -/
theorem staMemoryFrame : Obligations.StaMemoryFrame := by
  unfold Obligations.StaMemoryFrame
  intro w s t hdevices hexec
  cases (exec_staAbs_stored w (exec_implements hexec)).symm.trans hexec
  exact ⟨fun a ha => busRead_storedDevices_other _ hdevices ha,
    fun c hc hram => busRead_storedDevices_cell _ hdevices (storedBytes_addresses_nodup s.regs w) hc hram, rfl⟩

end Sys2Proof.Machine

/-!
SUPPORT. The jumps and the flow between them (spec/44_jump.md R220 to R222, spec/10_state.md R26): where the `PC` ends
after an instruction that is no jump, said of each operation on registers, and the completion of the two jumps.
-/

namespace Sys2Proof.Machine

/-! ### Sequential flow -/

/-- The offset after `k` bytes of the instruction stream (R25, R26). -/
@[simp] theorem offOf_codeAddr (pc : Long) (k : Nat) : offOf (codeAddr pc k) = offOf pc + BitVec.ofNat 16 k := by
  induction k with
  | zero => simp
  | succ k ih => rw [codeAddr_succ, offOf_incOffset, ih, BitVec.ofNat_add, BitVec.add_assoc]; rfl

/-- An instruction on registers alone that is no jump leaves the `PC` behind its bytes: its operation does not write the
`PC`, which has advanced over the operand. -/
theorem regsAfter_pc {corner : Bool} {i : Instr} {r r' : Regs} (h : regsAfter corner i r = some r')
    (habs : opcodeByte i ≠ 0x4C) (hlong : opcodeByte i ≠ 0x5C) : r'.pc = codeAddr r.pc (encode i).length := by
  cases i
  case jmpAbs => exact absurd rfl habs
  case jmpAbsLong => exact absurd rfl hlong
  case xce => cases h; exact (exchangeCarry_frame _).1
  case sep mask => cases h; exact (setBits_op mask).pc _
  case adcImm imm => cases imm <;> cases h <;> rfl
  case ldaImm imm => cases imm <;> cases h <;> rfl
  case ldxImm imm => cases imm <;> cases h <;> rfl
  case ldyImm imm => cases imm <;> cases h <;> rfl
  case clc | sec | rep | inx | iny | dex | dey | tax | nop => cases h; rfl
  all_goals cases h

/-- Every instruction that is no jump leaves the `PC` behind its bytes (R222), STP and WAI in their hold too. -/
theorem exec_pc {i : Instr} {s t : State} (h : exec i s = .next t) (habs : opcodeByte i ≠ 0x4C)
    (hlong : opcodeByte i ≠ 0x5C) : t.regs.pc = codeAddr s.regs.pc (encode i).length := by
  cases exec_ran h with
  | closed tl th r es fits hx hr => exact regsAfter_pc hr habs hlong
  | exchanged tl th es hx => subst hx; exact (exchangeCarry_frame _).1
  | stored w out es hw => subst hw; rfl
  | held es hh => obtain rfl | rfl := hh <;> rfl

/-- Settles O34: the `PC` ends at the code address behind the instruction, whose bank and offset `codeAddr` gives. -/
theorem sequentialFlow : Obligations.SequentialFlow := by
  unfold Obligations.SequentialFlow
  intro i s t h habs hlong
  have hpc := exec_pc h habs hlong
  exact ⟨hpc, hpc ▸ bankOf_codeAddr _ _, hpc ▸ offOf_codeAddr _ _⟩

/-! ### The two jumps -/

/-- A completed instruction has put its `PC` on the address lines (R136). -/
theorem CompletedWithoutStore.addressOut {op tl th : Byte} {reads : List Long} {s t : State}
    (h : CompletedWithoutStore op tl th reads s t) : t.pins.addressOut = t.regs.pc := by
  obtain ⟨⟨⟨-, hpresented, -⟩, -⟩, -⟩ := h
  exact hpresented

/-- Settles O20: the completion on registers alone, the `PC` being the operand in the bank of the `PC` before. -/
theorem jmpAbsoluteKeepsBank : Obligations.JmpAbsoluteKeepsBank := by
  unfold Obligations.JmpAbsoluteKeepsBank
  refine ⟨fun _ => rfl, fun _ _ => rfl, fun w s hp => ?_⟩
  obtain ⟨t, hexec, hregs, hdone⟩ := exec_completes (i := .jmpAbs w) (s := s) rfl nofun hp rfl
  have hpc : t.regs.pc = mkLong (bankOf s.regs.pc) w := congrArg Regs.pc hregs
  refine ⟨t, hexec, hpc ▸ hregs, ?_, ?_, hdone.addressOut, hpc ▸ hdone⟩
  · rw [hpc, offOf_mkLong]
  · rw [hpc, bankOf_mkLong]

/-- Settles O21: the completion on registers alone, the `PC` being the operand. -/
theorem jmpLongSetsBank : Obligations.JmpLongSetsBank := by
  unfold Obligations.JmpLongSetsBank
  refine ⟨fun _ => rfl, fun _ _ => rfl, fun l s hp => ?_⟩
  obtain ⟨t, hexec, hregs, hdone⟩ := exec_completes (i := .jmpAbsLong l) (s := s) rfl nofun hp rfl
  exact ⟨t, hexec, hregs, hdone.addressOut.trans (congrArg Regs.pc hregs), hdone⟩

end Sys2Proof.Machine

/-!
SUPPORT. The index instructions and TAX (spec/45_index_transfer.md R230 to R235): one write of an index register at the
width of `P.X`, so that the completion of all five is said once.
-/

namespace Sys2Proof.Machine

/-! ### An index register written at the width of `P.X` -/

/-- An index result is the write of its register at the width of `P.X` (R230). -/
theorem indexResult_writtenAtWidth (p : Status) (old : Word) (r8 : Byte) (r16 : Word) :
    WrittenAtWidth p.x old (indexResult p old r8 r16).1 r8.toNat r16.toNat p (indexResult p old r8 r16).2 := by
  unfold indexResult
  cases p.x
  case true => exact writtenAtWidth_b8 old r8 _ p
  case false => exact writtenAtWidth_w16 old r16 _ p

/-- An instruction that writes one register with an index result completes, and the register is written at the width of
`P.X`; `put` names the registers after it by what it writes. -/
theorem index_completes {i : Instr} {s : State} {put : Word → Status → Regs} {old : Word} {r8 : Byte} {r16 : Word}
    {n8 n16 : Nat}
    (hr : regsAfter s.params.adcCarryCorner i s.regs =
      some (put (indexResult s.regs.p old r8 r16).1 (indexResult s.regs.p old r8 r16).2))
    (hx : i ≠ .xce) (hp : s.params.implements (opcodeByte i) = true)
    (hw : WellFormed s.regs.p.m s.regs.p.x i = true) (h8 : r8.toNat = n8) (h16 : r16.toNat = n16) :
    ∃ t v q, exec i s = .next t ∧ t.regs = put v q ∧ WrittenAtWidth s.regs.p.x old v n8 n16 s.regs.p q ∧
      CompletedWithoutStore (opcodeByte i) (latchesAfter i s.seq).1 (latchesAfter i s.seq).2
        (codeReads s.regs.pc (List.range' 1 (readsBeforeLast i)) ++ [(put v q).pc]) s t := by
  obtain ⟨t, hexec, hregs, hdone⟩ := exec_completes hr hx hp hw
  exact ⟨t, _, _, hexec, hregs, h8 ▸ h16 ▸ indexResult_writtenAtWidth _ _ _ _, hdone⟩

/-- One less at any width: 0 goes to all ones (R233, R234). -/
theorem toNat_sub_one {w : Nat} (v : BitVec w) :
    (v - 1#w).toNat = if v.toNat = 0 then 2 ^ w - 1 else v.toNat - 1 := by
  split
  case isTrue hzero =>
    obtain rfl : v = 0#w := BitVec.eq_of_toNat_eq hzero
    rw [BitVec.zero_sub, BitVec.neg_one_eq_allOnes, BitVec.toNat_allOnes]
  case isFalse hpos =>
    have hone : (1#w).toNat = 1 := Nat.mod_eq_of_lt (by have := v.isLt; omega)
    rw [BitVec.toNat_sub_of_le (by rw [BitVec.le_def]; omega), hone]

/-! ### The obligations -/

/-- Settles O22: both are the write of an index register, with one more at either width. -/
theorem indexIncrements : Obligations.IndexIncrements := by
  unfold Obligations.IndexIncrements
  exact ⟨rfl, rfl, fun _ => ⟨rfl, rfl⟩, fun s =>
    ⟨fun hp => index_completes (i := .inx) rfl nofun hp rfl (BitVec.toNat_add _ _) (BitVec.toNat_add _ _),
     fun hp => index_completes (i := .iny) rfl nofun hp rfl (BitVec.toNat_add _ _) (BitVec.toNat_add _ _)⟩⟩

/-- Settles O23: both are the write of an index register, with one less at either width. -/
theorem indexDecrements : Obligations.IndexDecrements := by
  unfold Obligations.IndexDecrements
  exact ⟨rfl, rfl, fun _ => ⟨rfl, rfl⟩, fun s =>
    ⟨fun hp => index_completes (i := .dex) rfl nofun hp rfl (toNat_sub_one _) (toNat_sub_one _),
     fun hp => index_completes (i := .dey) rfl nofun hp rfl (toNat_sub_one _) (toNat_sub_one _)⟩⟩

/-- Settles O24: the value written at the width of `P.X` is `A` at that width, and `P.M` is not read. -/
theorem taxTransfersAtIndexWidth : Obligations.TaxTransfersAtIndexWidth := by
  unfold Obligations.TaxTransfersAtIndexWidth
  exact ⟨rfl, fun _ => rfl, fun s hp => index_completes (i := .tax) rfl nofun hp rfl rfl rfl⟩

end Sys2Proof.Machine

/-!
SUPPORT. NOP, STP and WAI (spec/46_system.md R250 to R252), the block of a placeholder as built (R254), and how the twenty
admitted instructions end (R256).
-/

namespace Sys2Proof.Machine

/-! ### NOP and the two holds -/

/-- Settles O25: NOP completes on registers alone, having advanced the `PC`. -/
theorem nopAdvances : Obligations.NopAdvances := by
  unfold Obligations.NopAdvances
  exact ⟨rfl, fun _ => rfl, fun s hp => exec_completes (i := .nop) rfl nofun hp rfl⟩

/-- The hold at `IR` = `op`, reached after three reads of the byte behind the opcode: what it changed and what it left
(R147). -/
theorem heldState_reached {s : State} (op : Byte) (hrlc : s.seq.rlc = 0) :
    ∃ t, t = heldState s op (readDiag s.devices (codeAddr s.regs.pc 1) ++ readEvents s 1) ∧
      (t.seq.ir = op ∧ t.seq.ic = 2 ∧ t.seq.rlc = 0) ∧ t.regs = { s.regs with pc := incOffset s.regs.pc } ∧
      t.seq = { s.seq with ir := op, ic := 2, dataIn := t.seq.dataIn } ∧
      t.pins.ctl = ⟨false, false, true, true, true⟩ ∧ t.pins.addressOut = t.regs.pc ∧
      t.pins.eLine = s.pins.eLine ∧ t.pins.phi2 = false ∧ SameMemory s t ∧ SameHost s t ∧
      t.diag = eventsAfterReads s.devices (codeReads s.regs.pc [1, 1, 1]) s.diag :=
  ⟨_, rfl, ⟨rfl, rfl, hrlc⟩, rfl, rfl, rfl, rfl, rfl, rfl, ⟨rfl, fun _ => rfl⟩,
    ⟨rfl, rfl, rfl, rfl, rfl, rfl, rfl, rfl, rfl, rfl⟩, rfl⟩

/-- Settles O26: both reach the held state of HALT3. -/
theorem stpWaiReachHold : Obligations.StpWaiReachHold := by
  unfold Obligations.StpWaiReachHold
  refine ⟨rfl, rfl, fun _ => ⟨rfl, rfl⟩, fun s hrlc => ⟨fun hp => ?stp, fun hp => ?wai⟩⟩
  case stp =>
    obtain ⟨t, rfl, hreached⟩ := heldState_reached 0xDB hrlc
    exact ⟨_, exec_stp s hp, hreached⟩
  case wai =>
    obtain ⟨t, rfl, hreached⟩ := heldState_reached 0xCB hrlc
    exact ⟨_, exec_wai s hp, hreached⟩

/-! ### The hold -/

theorem stopped_or_waiting_iff {s : State} :
    Stopped s ∨ Waiting s ↔ (s.seq.ir = 0xDB ∨ s.seq.ir = 0xCB) ∧ s.seq.ic = 2 ∧ s.seq.rlc = 0 := or_and_right.symm

/-- What clocks in the hold of `s` leave: the registers, the memory and the latches as they were, and the byte behind the
instruction read (R147). -/
structure HoldKept (s t : State) : Prop where
  params : t.params = s.params
  regs : t.regs = s.regs
  devices : t.devices = s.devices
  seq : t.seq = { s.seq with dataIn := s.busByte s.regs.pc }
  addressOut : t.pins.addressOut = s.regs.pc
  ctl : t.pins.ctl = .internal

section
variable {s t u : State}

theorem HoldKept.trans (h : HoldKept s t) (h' : HoldKept t u) : HoldKept s u where
  params := h'.params.trans h.params
  regs := h'.regs.trans h.regs
  devices := h'.devices.trans h.devices
  seq := by
    have hbyte : t.busByte t.regs.pc = s.busByte s.regs.pc := by
      rw [State.busByte, h.params, h.devices, h.regs, State.busByte]
    rw [h'.seq, h.seq, hbyte]
  addressOut := h'.addressOut.trans (congrArg Regs.pc h.regs)
  ctl := h'.ctl

theorem HoldKept.stopped_or_waiting (h : HoldKept s t) (hheld : Stopped s ∨ Waiting s) : Stopped t ∨ Waiting t := by
  rw [stopped_or_waiting_iff] at hheld ⊢
  rwa [h.seq]

/-- The row of HALT3 in the hold, its bus tick and the host's move (R147). -/
theorem haltHold_kept (hic : s.seq.ic = 2) : HoldKept s (hostMove (busTick (haltHold (setPhi2 true s)))) where
  params := by simp [haltHold]
  regs := by simp [haltHold]
  devices := by rw [hostMove_devices, busTick_of_read _ rfl]; rfl
  seq := by
    have hseq : ∀ b, { s.seq with ic := 2, dataIn := b } = { s.seq with dataIn := b } := fun b => by rw [← hic]
    rw [hostMove_seq, busTick_of_read _ rfl]
    exact hseq _
  addressOut := by simp [hostMove_pins, haltHold]
  ctl := by simp [hostMove_pins, haltHold]

/-- A clock that finds RESB high in the hold runs the last row of HALT3 again (R147, R251, R252). -/
theorem cycle_of_hold (hheld : Stopped s ∨ Waiting s) (hp : s.params.implements s.seq.ir = true)
    (hresb : s.pins.resb = true) : cycle s = .next (hostMove (busTick (haltHold (setPhi2 true s)))) := by
  obtain ⟨hir, hic, hrlc⟩ := stopped_or_waiting_iff.mp hheld
  have hlatched : latched (setPhi2 true s) = setPhi2 true s := if_neg (by simp [hic])
  have hhandler : handlerOf s.params s.seq.ir = some halt3Rows :=
    handlerOf_some.mpr ⟨hp, by obtain hir | hir := hir <;> rw [hir] <;> rfl⟩
  have hrow : halt3Rows (setPhi2 true s) = some (haltHold (setPhi2 true s)) := by simp [halt3Rows, hic]
  exact cycle_row hresb hrlc (by rw [hlatched]; exact hhandler) (by rw [hlatched]; exact hrow)

/-- A schedule that keeps RESB high for `n + 1` clocks does so at the first and for the `n` after it. -/
theorem high_of_take_succ {n : Nat} {l : List Bool} (h : ∀ b ∈ l.take (n + 1), b = true) :
    l.head?.getD true = true ∧ ∀ b ∈ l.tail.take n, b = true := by
  cases l with
  | nil => simp
  | cons b bs => simpa using h

/-- Clocks that find RESB high stay in the hold. -/
theorem cycles_of_hold (n : Nat) (hheld : Stopped s ∨ Waiting s) (hp : s.params.implements s.seq.ir = true)
    (hresb : s.pins.resb = true) (hhigh : ∀ b ∈ s.hostResb.take n, b = true) :
    ∃ t, cycles n s = .next t ∧ t.pins.resb = true ∧ ((n = 0 ∧ t = s) ∨ HoldKept s t) := by
  induction n generalizing s with
  | zero => exact ⟨s, rfl, hresb, .inl ⟨rfl, rfl⟩⟩
  | succ n ih =>
    obtain ⟨-, hic, -⟩ := stopped_or_waiting_iff.mp hheld
    have hkept := haltHold_kept hic
    have hcycle := cycle_of_hold hheld hp hresb
    obtain ⟨hhead, htail⟩ := high_of_take_succ hhigh
    obtain ⟨t, hcycles, hlevel, hrest⟩ := ih (hkept.stopped_or_waiting hheld)
      (by rw [hkept.params, hkept.seq]; exact hp) (by simpa [hostMove_pins, haltHold, hresb] using hhead)
      (by simpa [haltHold] using htail)
    refine ⟨t, (cycles_succ_of_next n hcycle).trans hcycles, hlevel, .inr ?_⟩
    obtain ⟨-, rfl⟩ | hrest := hrest
    · exact hkept
    · exact hkept.trans hrest

end

/-- Settles O27: each clock of the hold reads the byte behind the instruction again, and changes nothing else. -/
theorem holdIsPermanent : Obligations.HoldIsPermanent := by
  unfold Obligations.HoldIsPermanent
  intro s n hheld hp hresb hhigh
  obtain ⟨t, hcycles, hlevel, ⟨rfl, rfl⟩ | hkept⟩ := cycles_of_hold n hheld hp hresb hhigh
  · exact ⟨t, hcycles, rfl, rfl, rfl, hlevel, nofun⟩
  · exact ⟨t, hcycles, hkept.regs, hkept.devices, by rw [hkept.seq], hlevel,
      fun _ => ⟨by rw [hkept.seq], hkept.addressOut, hkept.ctl⟩⟩

/-! ### The block of a placeholder as built -/

/-- A bus tick over a presented opcode reads it again. -/
theorem OpcodePresented.busTick_eq {s : State} (h : OpcodePresented s) (hphi : s.pins.phi2 = false) :
    busTick s = { s with diag := readDiag s.devices s.regs.pc ++ s.diag } := by
  obtain ⟨haddr, hctl, hdata⟩ := h
  rw [busTick_of_read s (by rw [hctl]; rfl), haddr, ← hdata, ← hphi]

/-- Settles O29: the block raises its event and leaves the opcode presented, which the bus tick reads again. -/
theorem stagnationAsBuilt : Obligations.StagnationAsBuilt := by
  unfold Obligations.StagnationAsBuilt
  intro op s hpresented hphi
  have hstill : OpcodePresented (stagnate (latchIr op s)) := hpresented
  exact ⟨_, congrArg Host.Outcome.next (hstill.busTick_eq hphi), rfl, hpresented⟩

/-! ### How the admitted instructions end -/

section
variable {i : Instr} {s t : State}

/-- An instruction that ran ends with its opcode in `IR`: completed, or in the hold of STP and WAI (R136, R147). -/
theorem Ran.ends (h : Ran i s t) :
    t.seq.ir = opcodeByte i ∧ (if i = .stp ∨ i = .wai then t.seq.ic = 2 else Completed t) := by
  cases h with
  | closed tl th r es fits hx hr =>
    have hnot : ¬ (i = .stp ∨ i = .wai) := by rintro (rfl | rfl) <;> cases hr
    exact ⟨rfl, by rw [if_neg hnot]; exact ⟨rfl, rfl, rfl, rfl⟩⟩
  | exchanged tl th es hx => subst hx; exact ⟨rfl, by rw [if_neg (by simp)]; exact ⟨rfl, rfl, rfl, rfl⟩⟩
  | stored w out es hw => subst hw; exact ⟨rfl, by rw [if_neg (by simp)]; exact ⟨rfl, rfl, rfl, rfl⟩⟩
  | held es hh => exact ⟨rfl, by rw [if_pos hh]; rfl⟩

/-- The admitted opcodes but XCE, STA, STP and WAI: their instructions complete on registers alone. -/
def registerOpcodes : List Byte := Config.implemented.filter (· ∉ [0xFB, 0x8D, 0xDB, 0xCB])

theorem regsAfter_instrAt_isSome (corner m x : Bool) (bs : List Byte) (r : Regs) :
    ∀ op ∈ registerOpcodes, (regsAfter corner (instrAt m x op bs) r).isSome = true := by
  have hall : (registerOpcodes.all fun op => (regsAfter corner (instrAt m x op bs) r).isSome) = true := by
    cases m <;> cases x <;> rfl
  exact List.all_eq_true.mp hall

/-- An admitted instruction at its width answers a next state (R256). -/
theorem exec_answers (hmem : opcodeByte i ∈ Config.implemented) (hp : s.params.implements (opcodeByte i) = true)
    (hw : WellFormed s.regs.p.m s.regs.p.x i = true) : ∃ t, exec i s = .next t := by
  obtain ⟨bs, hi⟩ : ∃ bs, instrAt s.regs.p.m s.regs.p.x (opcodeByte i) bs = i :=
    ⟨operandBytes i ++ [], instrAt_operandBytes hw⟩
  have hforms : ∀ op ∈ Config.implemented, op ∈ registerOpcodes ∨ op = 0xFB ∨ op = 0x8D ∨ op = 0xDB ∨ op = 0xCB := by
    decide
  obtain hop | hop | hop | hop | hop := hforms _ hmem
  · have hx : i ≠ .xce := by rintro rfl; exact absurd hop (by decide)
    have hsome := regsAfter_instrAt_isSome s.params.adcCarryCorner s.regs.p.m s.regs.p.x bs s.regs _ hop
    rw [hi] at hsome
    obtain ⟨r, hr⟩ := Option.isSome_iff_exists.mp hsome
    exact ⟨_, exec_closed hr hx hp hw⟩
  · rw [hop] at hi
    obtain rfl : .xce = i := hi
    exact ⟨_, exec_xce s hp⟩
  · rw [hop] at hi
    obtain rfl : .staAbs _ = i := hi
    obtain ⟨out, es, h⟩ := exec_staAbs _ s hp
    exact ⟨_, h⟩
  · rw [hop] at hi
    obtain rfl : .stp = i := hi
    exact ⟨_, exec_stp s hp⟩
  · rw [hop] at hi
    obtain rfl : .wai = i := hi
    exact ⟨_, exec_wai s hp⟩

/-- IMM refuses an operand of the other width (R103; log 8). -/
theorem immediate_of_not_fits {op : Byte} {narrow : Bool} {op8 : Byte → State → State} {op16 : Word → State → State}
    {imm : Imm} (h : imm.fits narrow = false) : immediate op narrow op8 op16 imm s = .refused .operandWidth := by
  cases imm with
  | b8 v => obtain rfl : narrow = false := h; rfl
  | w16 w => obtain rfl : narrow = true := by simpa [Imm.fits] using h
             rfl

/-- An admitted instruction that is none under the width flags is an immediate of the other width (R103). -/
theorem exec_of_not_wellFormed (hmem : opcodeByte i ∈ Config.implemented) (hp : s.params.implements (opcodeByte i) = true)
    (hw : WellFormed s.regs.p.m s.regs.p.x i = false) : exec i s = .refused .operandWidth := by
  cases i
  case adcImm => rw [exec_adcImm_eq]; exact (withHandler_of hp).trans (immediate_of_not_fits hw)
  case ldaImm => rw [exec_ldaImm_eq]; exact (withHandler_of hp).trans (immediate_of_not_fits hw)
  case ldxImm => rw [exec_ldxImm_eq]; exact (withHandler_of hp).trans (immediate_of_not_fits hw)
  case ldyImm => rw [exec_ldyImm_eq]; exact (withHandler_of hp).trans (immediate_of_not_fits hw)
  case oraImm | andImm | eorImm | bitImm | cpyImm | cmpImm | cpxImm | sbcImm =>
    simp [opcodeByte, Config.implemented] at hmem
  all_goals cases hw

end

/-- Settles O30: what answers a next state ran to its end, and what does not fit is an immediate. -/
theorem admittedInstructionsEnd : Obligations.AdmittedInstructionsEnd := by
  unfold Obligations.AdmittedInstructionsEnd
  intro i s hmem hp
  refine ⟨fun hw => ?_, exec_of_not_wellFormed hmem hp⟩
  obtain ⟨t, h⟩ := exec_answers hmem hp hw
  exact ⟨t, h, (exec_ran h).ends⟩

end Sys2Proof.Machine

/-!
SUPPORT. How a step ends (spec/40_cycle_engine.md R130 to R136): under the invariant a clock answers a next state, or is
refused for one of two reasons (spec/46_system.md R254, spec/70_reset_and_hazards.md R305), and a step that answers no next
state is stopped by its first clock.
-/

namespace Sys2Proof.Machine

/-! ### The rows of a pattern -/

section
variable {s : State}

theorem implied2Rows_none {f : State → State} (h : implied2Rows f s = none) : 2 ≤ s.seq.ic.toNat := by
  unfold implied2Rows at h
  split_ifs at h
  bv_omega

theorem immp3Rows_none {f : Byte → State → State} (h : immp3Rows f s = none) : 3 ≤ s.seq.ic.toNat := by
  unfold immp3Rows at h
  split_ifs at h
  bv_omega

theorem immRows_none {flag : Status → Bool} {f8 : Byte → State → State} {f16 : Word → State → State}
    (h : immRows flag f8 f16 s = none) : 3 ≤ s.seq.ic.toNat := by
  unfold immRows at h
  split_ifs at h
  bv_omega

theorem absWriteRows_none (h : absWriteRows s = none) : 5 ≤ s.seq.ic.toNat := by
  unfold absWriteRows at h
  split_ifs at h
  bv_omega

theorem jmpAbsRows_none (h : jmpAbsRows s = none) : 3 ≤ s.seq.ic.toNat := by
  unfold jmpAbsRows at h
  split_ifs at h
  bv_omega

theorem jmpLongRows_none (h : jmpLongRows s = none) : 4 ≤ s.seq.ic.toNat := by
  unfold jmpLongRows at h
  split_ifs at h
  bv_omega

theorem halt3Rows_none (h : halt3Rows s = none) : 3 ≤ s.seq.ic.toNat := by
  unfold halt3Rows at h
  split_ifs at h
  bv_omega

/-- A handler answers no row only where `ic` is past the rows of its pattern, of which it has some (R136). -/
theorem HandlerCase.no_row {g : Handler} (hg : HandlerCase s.seq.ir g) (h : g s = none) :
    0 < patternRows s.seq.ir ∧ patternRows s.seq.ir ≤ s.seq.ic.toNat := by
  cases hg with
  | implied2 f hf rows => rw [rows]; exact ⟨by decide, implied2Rows_none h⟩
  | xce hi => rw [hi]; exact ⟨by decide, implied2Rows_none h⟩
  | immp3 f hf hi => obtain hi | hi := hi <;> rw [hi] <;> exact ⟨by decide, immp3Rows_none h⟩
  | imm flag f8 f16 hf => rw [hf.patternRows_eq]; exact ⟨by decide, immRows_none h⟩
  | absWrite hi => rw [hi]; exact ⟨by decide, absWriteRows_none h⟩
  | jmpAbs hi => rw [hi]; exact ⟨by decide, jmpAbsRows_none h⟩
  | jmpLong hi => rw [hi]; exact ⟨by decide, jmpLongRows_none h⟩
  | halt3 hi => obtain hi | hi := hi <;> rw [hi] <;> exact ⟨by decide, halt3Rows_none h⟩

end

/-- An opcode with rows has a handler that the spec defines (R106). -/
theorem mem_implemented_of_patternRows {ir : Byte} (h : 0 < patternRows ir) : ir ∈ Config.implemented := by
  by_contra hmem
  simp only [Config.implemented, List.mem_cons, List.not_mem_nil, or_false, not_or] at hmem
  simp only [patternRows, hmem, List.mem_cons, List.not_mem_nil, or_self, if_false] at h
  omega

/-! ### The outcome of a clock and of a step -/

/-- What answers a next state, or is refused for one of the two reasons of R254 and R305. -/
inductive EndsWell (s : State) : Result → Prop
  | next (t : State) : EndsWell s (.next t)
  | noHandler (hb : atBoundary s = true) (hg : handlerOf s.params s.seq.dataIn = none) :
      EndsWell s (.refused (.unimplementedOpcode s.seq.dataIn s.regs.pc))
  | shortPulse (hresb : s.pins.resb = true) (hrlc : s.seq.rlc = 1) : EndsWell s (.refused .shortResetPulse)

section
variable {s : State}

/-- The clock that finds RESB high after one low clock (R305). -/
theorem cycle_of_short_pulse (hresb : s.pins.resb = true) (hrlc : s.seq.rlc = 1) :
    cycle s = .refused .shortResetPulse := by
  simp [cycle, clock, hresb, hrlc]

/-- The clock that releases reset (R303). -/
theorem cycle_of_release (hresb : s.pins.resb = true) (hrlc : 2 ≤ s.seq.rlc) :
    cycle s = .next (hostMove (busTick (resetRelease (setPhi2 true s)))) := by
  have hpos : 0 < s.seq.rlc := by omega
  simp [cycle, clock, hresb, hrlc, hpos]

/-- Under the counters of the invariant the handler of an instruction in progress is present. -/
theorem CountersHold.handler (h : CountersHold s) (hic : s.seq.ic ≠ 0) :
    (handlerOf s.params s.seq.ir).isSome = true := by
  obtain ⟨-, h0 | ⟨himpl, hrows⟩⟩ := h
  · exact absurd h0 hic
  · exact (handlerOf_isSome_iff _ _).mpr ⟨himpl, mem_implemented_of_patternRows (by omega)⟩

/-- Under the counters of the invariant a handler that is found has the row that `ic` names (log 9). -/
theorem CountersHold.row {g : Handler} (h : CountersHold s)
    (hg : handlerOf (dispatchState s).params (dispatchState s).seq.ir = some g) : ∃ u, g (dispatchState s) = some u := by
  rw [← Option.ne_none_iff_exists']
  intro hnone
  obtain ⟨hpos, hle⟩ := (handlerOf_cases hg).2.no_row hnone
  rw [dispatchState_ic] at hle
  obtain ⟨-, h0 | ⟨-, hrows⟩⟩ := h
  · rw [h0] at hle
    exact absurd (hpos.trans_le hle) (by decide)
  · have hic : s.seq.ic ≠ 0 := fun h0 => absurd (hpos.trans_le (h0 ▸ hle)) (by decide)
    rw [dispatchState_ir hic] at hle
    omega

/-- A clock that finds RESB high and no reset under way runs a row, or latches an opcode without a handler. -/
theorem CountersHold.cycle_endsWell_of_dispatch (h : CountersHold s) (hresb : s.pins.resb = true) (hrlc : s.seq.rlc = 0) :
    EndsWell s (cycle s) := by
  cases hg : handlerOf (dispatchState s).params (dispatchState s).seq.ir with
  | some g =>
    obtain ⟨u, hu⟩ := h.row hg
    rw [cycle_row hresb hrlc hg hu]
    exact .next _
  | none =>
    by_cases hic : s.seq.ic = 0
    · have hdispatch : dispatchState s = latchIr s.seq.dataIn (setPhi2 true s) := if_pos hic
      rw [hdispatch] at hg
      rw [cycle_of_null_handler hresb hrlc hic hg]
      exact .noHandler (atBoundary_iff.mpr ⟨hresb, hrlc, hic⟩) hg
    · rw [dispatchState_params, dispatchState_ir hic] at hg
      exact absurd (h.handler hic) (by simp [hg])

theorem CountersHold.cycle_endsWell (h : CountersHold s) : EndsWell s (cycle s) := by
  cases hresb : s.pins.resb with
  | false => rw [cycle_of_low hresb]; exact .next _
  | true =>
    obtain hrlc | hrlc | hrlc : s.seq.rlc = 0 ∨ s.seq.rlc = 1 ∨ 2 ≤ s.seq.rlc := by omega
    · exact h.cycle_endsWell_of_dispatch hresb hrlc
    · rw [cycle_of_short_pulse hresb hrlc]; exact .shortPulse hresb hrlc
    · rw [cycle_of_release hresb hrlc]; exact .next _

end

/-- A step that answers no next state is stopped by its first clock. -/
theorem step_next_or_eq_cycle (s : State) : (∃ t, step s = .next t) ∨ step s = cycle s := by
  by_cases h : atBoundary s = true ∧ quiet (instrClocks s.regs.p.m (fetchInstr s)) s = true
  · obtain ⟨hb, hquiet⟩ := h
    rw [step_of_quiet hb hquiet]
    obtain ⟨rows, -, hexec, -⟩ | ⟨hnull, hexec⟩ := levelsAgree_fetchInstr hb
    · exact .inl ⟨_, by rw [hexec, mapNext]⟩
    · obtain ⟨hresb, hrlc, hic⟩ := atBoundary_iff.mp hb
      exact .inr (by rw [hexec, mapNext, cycle_of_null_handler hresb hrlc hic hnull])
  · exact .inr (stepIsOneCycleElsewhere s (by simpa only [not_and_or, Bool.not_eq_true] using h))

/-- A step from a state of the invariant answers a next state, or is refused for one of the two reasons. -/
theorem Inv.step_endsWell {s : State} (h : Inv s) : EndsWell s (step s) := by
  obtain ⟨-, -, -, hcounters, -⟩ := h
  obtain ⟨t, ht⟩ | hcycle := step_next_or_eq_cycle s
  · rw [ht]; exact .next t
  · rw [hcycle]; exact hcounters.cycle_endsWell

/-- Settles O42: no fault is among the outcomes of a step. -/
theorem stepNeverFaults : Obligations.StepNeverFaults := by
  unfold Obligations.StepNeverFaults
  intro s r h hfault
  have hends := h.step_endsWell
  rw [hfault] at hends
  cases hends

/-- Settles O43: an opcode without a handler is at an instruction boundary, where it is the byte at `PC`; the other refusal
is the short pulse. -/
theorem refusalsAreTwo : Obligations.RefusalsAreTwo := by
  unfold Obligations.RefusalsAreTwo
  intro s r h hrefused
  have hends := h.step_endsWell
  rw [hrefused] at hends
  cases hends with
  | noHandler hb hg =>
    obtain ⟨-, -, -, -, -, hboundary, -⟩ := h
    obtain ⟨-, hrlc, hic⟩ := atBoundary_iff.mp hb
    obtain ⟨-, -, hdata⟩ := hboundary hrlc hic
    have hnot : ¬ (s.params.implements s.seq.dataIn = true ∧ s.seq.dataIn ∈ Config.implemented) := by
      rw [← handlerOf_isSome_iff, hg]
      decide
    exact .inl ⟨_, rfl, hdata, by simpa only [not_and_or, Bool.not_eq_true] using hnot, hb⟩
  | shortPulse hresb hrlc => exact .inr ⟨rfl, hresb, hrlc⟩

end Sys2Proof.Machine

/-!
SUPPORT. A change of the state that no part of a clock reads commutes with the step; older events on the diagnostic channel
are one (spec/60_exceptions.md R270).
-/

namespace Sys2Proof.Machine

/-- A change of the state that no part of a clock reads: what chooses the case of `Clock()` and the number of clocks of a
step stays, and every part of a cycle commutes with the change. -/
structure ClockBlind (φ : State → State) : Prop where
  params : ∀ s, (φ s).params = s.params
  regs : ∀ s, (φ s).regs = s.regs
  seq : ∀ s, (φ s).seq = s.seq
  resb : ∀ s, (φ s).pins.resb = s.pins.resb
  clocks : ∀ s, stepClocks (φ s) = stepClocks s
  phi2 : ∀ s, setPhi2 true (φ s) = φ (setPhi2 true s)
  latch : ∀ s, latched (φ s) = φ (latched s)
  held : ∀ s, resetHold (φ s) = φ (resetHold s)
  released : ∀ s, resetRelease (φ s) = φ (resetRelease s)
  row : ∀ {ir g} s, HandlerCase ir g → g (φ s) = (g s).map φ
  tick : ∀ s, busTick (φ s) = φ (busTick s)
  host : ∀ s, hostMove (φ s) = φ (hostMove s)

section
variable {φ : State → State}

theorem ClockBlind.dispatchClock (h : ClockBlind φ) (s : State) :
    dispatchClock (φ s) = mapNext φ (dispatchClock s) := by
  have hhandler : handlerOf (latched (φ s)).params (latched (φ s)).seq.ir =
      handlerOf (latched s).params (latched s).seq.ir := by rw [h.latch, h.params, h.seq]
  cases hg : handlerOf (latched s).params (latched s).seq.ir with
  | none =>
    rw [dispatchClock_of_null hg, dispatchClock_of_null (hhandler.trans hg), h.latch]
    simp only [nullHandler, placeholderTreatment, mapNext, h.seq, h.regs]
  | some g =>
    have hrow : g (latched (φ s)) = (g (latched s)).map φ := by rw [h.latch, h.row _ (handlerOf_cases hg).2]
    cases hu : g (latched s) with
    | none =>
      rw [dispatchClock_of_no_row hg hu, dispatchClock_of_no_row (hhandler.trans hg) (by rw [hrow, hu]; rfl), h.latch,
        h.seq, mapNext]
    | some u =>
      rw [dispatchClock_of_row hg hu, dispatchClock_of_row (hhandler.trans hg) (by rw [hrow, hu]; rfl), mapNext]

theorem ClockBlind.clock (h : ClockBlind φ) (s : State) : clock (φ s) = mapNext φ (clock s) := by
  simp only [Machine.clock, h.phi2, h.resb, h.seq, h.held, h.released]
  split_ifs
  · rfl
  · rfl
  · rfl
  · exact h.dispatchClock _

theorem ClockBlind.cycle (h : ClockBlind φ) (s : State) : cycle (φ s) = mapNext φ (cycle s) := by
  rw [Machine.cycle, Machine.cycle, h.clock]
  cases Machine.clock s with
  | next u => simp only [mapNext, h.tick, h.host]
  | fault r => rfl
  | refused r => rfl

theorem ClockBlind.cycles (h : ClockBlind φ) (k : Nat) (s : State) : cycles k (φ s) = mapNext φ (cycles k s) := by
  induction k generalizing s with
  | zero => rfl
  | succ k ih =>
    rw [Machine.cycles, Machine.cycles, h.cycle]
    cases Machine.cycle s with
    | next u => exact ih u
    | fault r => rfl
    | refused r => rfl

/-- A step is a number of cycles, which the change does not choose. -/
theorem ClockBlind.step (h : ClockBlind φ) (s : State) : step (φ s) = mapNext φ (step s) := by
  rw [step_eq_cycles, step_eq_cycles s, h.clocks, h.cycles]

end

section
variable (old : List Diag) (s : State)

/-- The events of a bus tick go on top of the older ones. -/
theorem busTick_withOlderEvents : busTick (withOlderEvents old s) = withOlderEvents old (busTick s) := by
  have hctl : (withOlderEvents old s).pins.ctl.rwb = s.pins.ctl.rwb := rfl
  cases hrwb : s.pins.ctl.rwb
  · rw [busTick_of_write s hrwb, busTick_of_write _ (hctl.trans hrwb)]
    simp [withOlderEvents]
  · rw [busTick_of_read s hrwb, busTick_of_read _ (hctl.trans hrwb)]
    simp [withOlderEvents, State.busByte]

theorem resetHold_withOlderEvents : resetHold (withOlderEvents old s) = withOlderEvents old (resetHold s) := by
  rw [resetHold, resetHold, apply_ite (withOlderEvents old)]
  rfl

theorem hostMove_withOlderEvents : hostMove (withOlderEvents old s) = withOlderEvents old (hostMove s) := by
  cases hl : s.hostResb <;> simp [hostMove, withOlderEvents, hl]

/-- A row raises no event and reads none. -/
theorem HandlerCase.withOlderEvents {ir : Byte} {g : Handler} (hg : HandlerCase ir g) :
    g (Machine.withOlderEvents old s) = (g s).map (Machine.withOlderEvents old) := by
  have hmap := @apply_ite _ _ (Option.map (Machine.withOlderEvents old))
  cases hg with
  | implied2 f hf rows => simp only [implied2Rows, hmap]; rfl
  | xce hi => simp only [implied2Rows, hmap]; rfl
  | immp3 f hf hi => simp only [immp3Rows, hmap]; rfl
  | imm flag f8 f16 hf => simp only [immRows, hmap]; rfl
  | absWrite hi => simp only [absWriteRows, hmap]; rfl
  | jmpAbs hi => simp only [jmpAbsRows, hmap]; rfl
  | jmpLong hi => simp only [jmpLongRows, hmap]; rfl
  | halt3 hi => simp only [halt3Rows, hmap]; rfl

end

/-- No part of a clock reads the diagnostic channel (R270). -/
theorem withOlderEvents_clockBlind (old : List Diag) : ClockBlind (withOlderEvents old) where
  params _ := rfl
  regs _ := rfl
  seq _ := rfl
  resb _ := rfl
  clocks _ := rfl
  phi2 _ := rfl
  latch s := (apply_ite (withOlderEvents old) (s.seq.ic = 0) (latchIr s.seq.dataIn s) s).symm
  held := resetHold_withOlderEvents old
  released _ := rfl
  row s hg := hg.withOlderEvents old s
  tick := busTick_withOlderEvents old
  host := hostMove_withOlderEvents old

/-- Settles O46: no part of a clock reads the channel, and the bus tick puts its events on top of the older ones. -/
theorem diagnosticsChangeNothing : Obligations.DiagnosticsChangeNothing := by
  unfold Obligations.DiagnosticsChangeNothing
  exact fun old => (withOlderEvents_clockBlind old).step

end Sys2Proof.Machine

/-!
SUPPORT. The clocks of the admitted instructions (spec/70_reset_and_hazards.md R315) and the word a platform loads where the
next step fetches (R307).
-/

namespace Sys2Proof
open Machine

/-! ### Clocks -/

/-- The rows of the table whose opcodes are admitted give the clocks of the instructions their opcodes begin (R315). -/
theorem instrClocks_instrAt (m x : Bool) (bs : List Byte) : ∀ row ∈ Config.opcodeTable, row.opcode ∈ Config.implemented →
    instrClocks m (instrAt m x row.opcode bs) =
      row.baseCycles + wideImmediate row.mode m x + (if row.opcode = 0x8D ∧ m = false then 1 else 0) := by
  have hall : (Config.opcodeTable.all fun row => !(decide (row.opcode ∈ Config.implemented)) ||
      instrClocks m (instrAt m x row.opcode bs) ==
        row.baseCycles + wideImmediate row.mode m x + (if row.opcode = 0x8D ∧ m = false then 1 else 0)) = true := by
    simp only [Config.opcodeTable, List.all_append, Bool.and_eq_true]
    cases m <;> cases x <;> and_intros <;> rfl
  intro row hrow hmem
  simpa [hmem] using List.all_eq_true.mp hall row hrow

/-- Settles O7: a well-formed instruction is what its opcode begins, and the table has a row of its opcode. -/
theorem clockCounts : Obligations.ClockCounts := by
  unfold Obligations.ClockCounts
  intro m x i hwf hmem
  obtain ⟨row, hrow, hop⟩ := exists_row (opcodeByte i)
  have hi : instrAt m x row.opcode (operandBytes i ++ []) = i := by rw [hop, instrAt_operandBytes hwf]
  have hclocks := instrClocks_instrAt m x (operandBytes i ++ []) row hrow (hop ▸ hmem)
  rw [hi, hop] at hclocks
  exact ⟨row, hrow, hop, hclocks⟩

/-! ### The loaded word -/

/-- A byte loaded from outside changes no read of another address (R67, R307). -/
theorem busRead_loadByte_other (u : Byte) {ds : List Device} (h : ds.all Device.wf = true) {a x : Long} (hne : x ≠ a)
    (b : Byte) : busRead u (loadByte ds a b) x = busRead u ds x := by
  unfold busRead
  congr 1
  induction ds with
  | nil =>
    have hout : ¬ (a ≤ x ∧ x ≤ a) := fun ⟨hlo, hhi⟩ => hne (BitVec.le_antisymm hhi hlo)
    simpa [loadByte, claimedRead, Device.validRead_iff] using hout
  | cons d ds ih =>
    rw [List.all_cons, Bool.and_eq_true] at h
    obtain ⟨hd, hds⟩ := h
    unfold loadByte
    split
    · simp [Device.readByte_putByte_other hd hne b]
    · simp [ih hds]

/-- The code addresses of an instruction are different ones (R25, R76). -/
theorem codeAddr_injective {pc : Long} {j k : Nat} (hj : j < 2 ^ 16) (hk : k < 2 ^ 16)
    (h : codeAddr pc j = codeAddr pc k) : j = k := by
  have hoff := congrArg offOf h
  rw [offOf_codeAddr, offOf_codeAddr, BitVec.add_right_inj] at hoff
  have hmod : j % 2 ^ 16 = k % 2 ^ 16 := by simpa using congrArg BitVec.toNat hoff
  rwa [Nat.mod_eq_of_lt hj, Nat.mod_eq_of_lt hk] at hmod

/-- The devices after the bytes `b 0`, `b 1`, … are loaded in turn at the addresses `a 0`, `a 1`, … -/
def loadBytes (ds : List Device) (a : Nat → Long) (b : Nat → Byte) : Nat → List Device
  | 0 => ds
  | n + 1 => loadByte (loadBytes ds a b n) (a n) (b n)

section
variable {ds : List Device} {a : Nat → Long} {n : Nat}

theorem loadBytes_wf (h : ds.all Device.wf = true) (b : Nat → Byte) (n : Nat) :
    (loadBytes ds a b n).all Device.wf = true := by
  induction n with
  | zero => exact h
  | succ n ih => exact loadByte_wf ih _ _

/-- Bytes loaded at different addresses are all read back. -/
theorem busRead_loadBytes (u : Byte) (h : ds.all Device.wf = true) (b : Nat → Byte)
    (hne : ∀ j k, j < k → k < n → a j ≠ a k) {k : Nat} (hk : k < n) : busRead u (loadBytes ds a b n) (a k) = b k := by
  induction n with
  | zero => exact absurd hk (Nat.not_lt_zero k)
  | succ n ih =>
    rw [loadBytes]
    obtain hlt | rfl := Nat.lt_succ_iff_lt_or_eq.mp hk
    · rw [busRead_loadByte_other u (loadBytes_wf h b n) (hne k n hlt n.lt_succ_self)]
      exact ih (fun i j hij hj => hne i j hij (hj.trans n.lt_succ_self)) hlt
    · exact busRead_loadByte_same (loadBytes_wf h b k) _ _

end

theorem withFetchWord_devices (s : State) (nbits w : Nat) :
    (s.withFetchWord nbits w).devices = loadBytes s.devices (codeAddr s.regs.pc) (tableByte nbits w) 4 := rfl

/-- The loaded bytes are the first four of the instruction stream (R307). -/
theorem codeBytes_withFetchWord {s : State} (h : DevicesHold s) (nbits w : Nat) :
    codeBytes (s.withFetchWord nbits w) 4 = (List.range 4).map (tableByte nbits w) := by
  refine List.map_congr_left fun k hk => ?_
  rw [State.busByte, withFetchWord_devices]
  refine busRead_loadBytes _ h _ (fun i j hij hj heq => ?_) (List.mem_range.mp hk)
  exact hij.ne (codeAddr_injective (by omega) (by omega) heq)

/-- No instruction touches the schedule of RESB (R40, R72). -/
theorem exec_hostResb {i : Instr} {s t : State} (h : exec i s = .next t) : t.hostResb = s.hostResb := by
  cases exec_ran h with
  | closed => rfl
  | exchanged => rfl
  | stored => rfl
  | held => rfl

/-- With nothing scheduled no reset begins. -/
theorem quiet_of_nil {s : State} (h : s.hostResb = []) (k : Nat) : quiet k s = true := by
  simp [quiet, h]

/-- With nothing scheduled the host does nothing after an instruction. -/
theorem mapNext_hostMoves_exec {i : Instr} {s : State} (h : s.hostResb = []) (k : Nat) :
    mapNext (hostMoves k) (exec i s) = exec i s := by
  cases hexec : exec i s with
  | next t => rw [mapNext, hostMoves_of_nil t ((exec_hostResb hexec).trans h)]
  | fault r => rfl
  | refused r => rfl

/-- A word of the opcode table is read from its four bytes at the 8-bit widths (R103). -/
theorem decode_of_decodeTableWord {nbits w : Nat} {i : Instr} (h : decodeTableWord nbits w = some i) :
    ∃ rest, decode true true ((List.range 4).map (tableByte nbits w)) = .ok (i, rest) := by
  rw [decodeTableWord] at h
  split at h
  case h_1 hdecode => cases h; exact ⟨_, hdecode⟩
  case h_2 => cases h

/-- Settles O38: loading puts the engine at a boundary where the word's bytes are the instruction stream, with nothing
scheduled for RESB. -/
theorem fetchWordIsRun : Obligations.FetchWordIsRun := by
  unfold Obligations.FetchWordIsRun
  intro s nbits w i hdevices hm hx hi
  obtain ⟨rest, hdecode⟩ := decode_of_decodeTableWord hi
  rw [← codeBytes_withFetchWord hdevices] at hdecode
  have hpresented : OpcodePresented (s.withFetchWord nbits w) := ⟨rfl, rfl, rfl⟩
  have hwidths : decode s.regs.p.m s.regs.p.x (codeBytes (s.withFetchWord nbits w) 4) = .ok (i, rest) := by
    rw [hm, hx, hdecode]
  rw [stepRunsDecodedInstruction _ i rest rfl hpresented hwidths (quiet_of_nil rfl _), mapNext_hostMoves_exec rfl]

end Sys2Proof

/-!
SUPPORT. Reset (spec/70_reset_and_hazards.md R300 to R306): what a clock with RESB low leaves, what the later ones force, and
the release. Running into unclaimed memory (R312).
-/

namespace Sys2Proof.Machine

/-! ### The forced state -/

/-- The registers of the canonical reset state, over those before it (R301, R302). -/
def Regs.resetForced (r : Regs) : Regs :=
  { r with
    d := 0x000000
    dbr := 0x000000
    sp := mkLong (bankOf r.sp) (mkWord 0x01 (loByte (offOf r.sp)))
    x := mkWord 0x00 r.xl
    y := mkWord 0x00 r.yl
    epE := true
    p := { r.p with m := true, x := true, d := false, i := true } }

@[simp] theorem Regs.resetForced_epE (r : Regs) : r.resetForced.epE = true := rfl

/-- Forcing twice is forcing once: what is kept is not looked at. -/
theorem Regs.resetForced_resetForced (r : Regs) : r.resetForced.resetForced = r.resetForced := by
  simp [Regs.resetForced, Regs.xl, Regs.yl]

@[simp] theorem forceResetState_regs (s : State) : (forceResetState s).regs = s.regs.resetForced := rfl
@[simp] theorem forceResetState_seq (s : State) : (forceResetState s).seq = s.seq := rfl
@[simp] theorem forceResetState_pins (s : State) :
    (forceResetState s).pins = { s.pins with ctl := .resetIdle, eLine := true } := rfl
@[simp] theorem forceResetState_params (s : State) : (forceResetState s).params = s.params := rfl

/-- From the second clock with RESB low on the reset state is forced (R300, R301). -/
theorem resetHold_of_later {s : State} (h : 1 ≤ s.seq.rlc) :
    resetHold s = forceResetState { s with seq := { s.seq with rlc := 2 } } := by
  have hcount : min (s.seq.rlc + 1) 2 = 2 := by omega
  simp [resetHold, hcount]

/-- Settles O54: the clock is `ResetHold()`, which forces the state from `rlc` = 1 on. -/
theorem forcedResetState : Obligations.ForcedResetState := by
  unfold Obligations.ForcedResetState
  intro s hresb hrlc
  have hclock := clock_of_low hresb
  rw [resetHold_of_later (s := setPhi2 true s) hrlc] at hclock
  exact ⟨_, hclock, rfl, rfl, rfl, rfl, rfl, rfl⟩

/-! ### The release -/

/-- The clock that finds RESB high after two low ones (R131 case 2, R303). -/
theorem clock_of_release {s : State} (hresb : s.pins.resb = true) (hrlc : 2 ≤ s.seq.rlc) :
    clock s = .next (resetRelease (setPhi2 true s)) := by
  have hpos : 0 < s.seq.rlc := by omega
  simp [clock, hresb, hrlc, hpos]

theorem vectors_reset_emulation (p : Config.Params) : (p.vectors true).reset = p.vecEReset := rfl

theorem vectors_reset_native (p : Config.Params) :
    (p.vectors false).reset = p.vecNReset.getD Config.freeVecNReset := rfl

@[simp] theorem resetRelease_pc (s : State) :
    (resetRelease s).regs.pc = (s.params.vectors s.regs.epE).reset := rfl

/-- Settles O55: the defaults are those of the table, and the clock is `ResetRelease()`. -/
theorem releaseLoadsResetVector : Obligations.ReleaseLoadsResetVector := by
  unfold Obligations.ReleaseLoadsResetVector
  refine ⟨rfl, rfl, rfl, rfl, fun s hresb hrlc => ?_⟩
  refine ⟨_, clock_of_release hresb hrlc, rfl, fun he => ?_, fun he => ?_, rfl, rfl, rfl, rfl, rfl, rfl⟩
  · rw [resetRelease_pc, setPhi2_regs, he, vectors_reset_emulation, setPhi2_params]
  · rw [resetRelease_pc, setPhi2_regs, he, vectors_reset_native, setPhi2_params]

/-- Settles O56: the clock is neither a low one, nor a release, nor a dispatch. -/
theorem shortResetPulseRefused : Obligations.ShortResetPulseRefused := by
  unfold Obligations.ShortResetPulseRefused
  exact fun s hresb hrlc => clock_of_cycle_refused (cycle_of_short_pulse hresb hrlc)

/-! ### The reset sequence -/

@[simp] theorem resetHold_hostResb (s : State) : (resetHold s).hostResb = s.hostResb := by
  unfold resetHold; dsimp only; split <;> rfl

theorem busTick_devices_of_read {s : State} (h : s.pins.ctl.rwb = true) : (busTick s).devices = s.devices := by
  rw [busTick_of_read s h]

/-- What clocks with RESB low leave, one or more (R300 to R302): the first repeats the cycle it interrupts, which changes
memory only if it is a write, and the later ones force the reset state. -/
structure ResetHeld (s t : State) : Prop where
  params : t.params = s.params
  regs : t.regs.resetForced = s.regs.resetForced
  seq : t.seq = { s.seq with rlc := t.seq.rlc, dataIn := t.seq.dataIn }
  counted : 1 ≤ t.seq.rlc
  forced : 1 ≤ s.seq.rlc → t.regs = s.regs.resetForced ∧ t.seq.rlc = 2 ∧ t.pins.eLine = true
  devices : s.pins.ctl.rwb = true ∨ 1 ≤ s.seq.rlc → t.devices = s.devices

theorem ResetHeld.trans {s t u : State} (h : ResetHeld s t) (h' : ResetHeld t u) : ResetHeld s u where
  params := h'.params.trans h.params
  regs := h'.regs.trans h.regs
  seq := by rw [h'.seq, h.seq]
  counted := h'.counted
  forced _ := h.regs ▸ h'.forced h.counted
  devices hkept := (h'.devices (.inr h.counted)).trans (h.devices hkept)

/-- One clock with RESB low, its bus tick and the host's move. -/
theorem resetHold_held (s : State) : ResetHeld s (hostMove (busTick (resetHold (setPhi2 true s)))) := by
  obtain h0 | hlater := Nat.eq_zero_or_pos s.seq.rlc
  · rw [resetHold_of_first (s := setPhi2 true s) h0]
    exact {
      params := by simp
      regs := by simp
      seq := by rw [hostMove_seq, busTick_seq]; rfl
      counted := by simp
      forced := fun h => by omega
      devices := fun h => by
        have hrwb : s.pins.ctl.rwb = true := h.resolve_right (by omega)
        rw [hostMove_devices, busTick_devices_of_read (by simpa using hrwb)]; rfl }
  · rw [resetHold_of_later (s := setPhi2 true s) hlater]
    exact {
      params := by simp
      regs := by simpa using s.regs.resetForced_resetForced
      seq := by rw [hostMove_seq, busTick_seq]; rfl
      counted := by simp
      forced := fun _ => by simp [hostMove_pins]
      devices := fun _ => by rw [hostMove_devices, busTick_devices_of_read rfl]; rfl }

/-- One clock with RESB low, the host's next level being `b`. -/
theorem cycle_low {s : State} {b : Bool} {bs : List Bool} (hresb : s.pins.resb = false) (hl : s.hostResb = b :: bs) :
    ∃ t, cycle s = .next t ∧ t.pins.resb = b ∧ t.hostResb = bs ∧ ResetHeld s t :=
  ⟨_, cycle_of_low hresb, by simp [hostMove_pins, hl], by simp [hl], resetHold_held s⟩

/-- Clocks with RESB low, which stays low after them (R300). -/
theorem cycles_low (k : Nat) {s : State} {bs : List Bool} (hresb : s.pins.resb = false)
    (hl : s.hostResb = List.replicate (k + 1) false ++ bs) :
    ∃ t, cycles (k + 1) s = .next t ∧ t.pins.resb = false ∧ t.hostResb = bs ∧ ResetHeld s t := by
  induction k generalizing s with
  | zero =>
    rw [cycles_one]
    exact cycle_low hresb hl
  | succ k ih =>
    obtain ⟨u, hcycle, hlow, hrest, hheld⟩ := cycle_low hresb hl
    obtain ⟨t, hcycles, hlow', hrest', hheld'⟩ := ih hlow hrest
    exact ⟨t, (cycles_succ_of_next _ hcycle).trans hcycles, hlow', hrest', hheld.trans hheld'⟩

theorem OpcodePresented.hostMove {s : State} (h : OpcodePresented s) : OpcodePresented (hostMove s) := by
  unfold Machine.hostMove
  split
  · exact h
  · exact h

/-- What the release clock leaves, its bus tick and the host's move done (R303). -/
structure ResetReleased (s t : State) : Prop where
  regs : t.regs = { s.regs with pc := (s.params.vectors s.regs.epE).reset }
  seq : t.seq = { s.seq with ic := 0, rlc := 0, dataIn := t.seq.dataIn }
  eLine : t.pins.eLine = s.pins.eLine
  presented : OpcodePresented t
  devices : t.devices = s.devices

theorem resetRelease_released (s : State) :
    ResetReleased s (hostMove (busTick (resetRelease (setPhi2 true s)))) where
  regs := by rw [hostMove_regs, busTick_regs]; rfl
  seq := by rw [hostMove_seq, busTick_seq]; rfl
  eLine := by rw [hostMove_pins, busTick_pins]; rfl
  presented := by
    rw [busTick_of_read _ rfl]
    exact OpcodePresented.hostMove ⟨rfl, rfl, rfl⟩
  devices := by rw [hostMove_devices, busTick_devices_of_read rfl]; rfl

/-- Settles O57: the low clocks end in the forced state, whose mode is emulation, and the release presents the opcode at its
vector. -/
theorem resetSequence : Obligations.ResetSequence := by
  unfold Obligations.ResetSequence
  intro s n more hn hresb hl
  obtain ⟨k, rfl⟩ := Nat.exists_eq_add_of_le' hn
  obtain ⟨u, hlow, huresb, hul, hu⟩ := cycles_low k hresb hl
  obtain ⟨v, hlast, hvresb, -, hv⟩ := cycle_low huresb hul
  obtain ⟨hregs, hrlc, heLine⟩ := hv.forced hu.counted
  have hheld := hu.trans hv
  have hrelease := cycle_of_release hvresb hrlc.ge
  have hdone := resetRelease_released v
  have hcycles : cycles (k + 1 + 2) s = _ :=
    (cycles_add_of_next 2 hlow).trans ((cycles_succ_of_next 1 hlast).trans ((cycles_one v).trans hrelease))
  rw [hu.regs] at hregs
  refine ⟨_, hcycles, ?regs, ?seq, hdone.eLine.trans heLine, hdone.presented, ?devices⟩
  case regs => rw [hdone.regs, hheld.params, hregs, Regs.resetForced_epE, vectors_reset_emulation, Regs.resetForced]
  case seq => rw [hdone.seq, hheld.seq]
  case devices => exact fun hkept => hdone.devices.trans (hheld.devices hkept)

/-! ### Unclaimed memory -/

/-- At a boundary whose `PC` no device claims, the default sentinel is fetched as INY (R64, R312). -/
theorem fetchInstr_of_unclaimed {s : State} (hsentinel : s.params.unclaimedRead = 0xC8) (hpresented : OpcodePresented s)
    (hnone : claimedRead s.devices s.regs.pc = none) : fetchInstr s = .iny := by
  obtain ⟨-, -, hdata⟩ := hpresented
  have hop : s.seq.dataIn = 0xC8 := by rw [hdata, State.busByte, busRead, hnone, hsentinel]; rfl
  rw [fetchInstr, hop]
  rfl

/-- Settles O59: the sentinel is the opcode of INY, which completes as `IndexIncrements` says. -/
theorem unclaimedMemoryRunsIny : Obligations.UnclaimedMemoryRunsIny := by
  unfold Obligations.UnclaimedMemoryRunsIny
  intro s hsentinel hp hb hpresented hquiet hnone
  have hfetch := fetchInstr_of_unclaimed hsentinel hpresented hnone
  have hstep := step_of_quiet hb (by rw [hfetch]; exact hquiet)
  obtain ⟨-, -, -, hruns⟩ := indexIncrements
  obtain ⟨t, v, q, hexec, hregs, hwritten, hcompleted⟩ := (hruns s).2 hp
  obtain ⟨⟨-, ⟨hdevices, -⟩, -, -, hseq, hdiag⟩, -⟩ := hcompleted
  rw [hfetch, hexec, mapNext] at hstep
  refine ⟨_, v, q, hstep, ?_, hwritten, ?_, ?_, ?_⟩
  · rw [hostMoves_regs, hregs]
  · rw [hostMoves_devices, hdevices]
  · rw [hostMoves_seq, hseq]
  · rw [hostMoves_diag, hdiag]
    rfl

end Sys2Proof.Machine
